-- ==== Sys2Proof/Word.lean ====
section
/-! DEFINITION. The two word types of the hardware (spec/00_scope.md R7). -/

namespace Sys2Proof

/-- An 8-bit cell: a general register, the flags cell, a memory cell, an opcode byte (R7). -/
abbrev Byte := BitVec 8

/-- A 16-bit value: an address, a register pair, the program counter, the stack pointer (R7). -/
abbrev Word := BitVec 16

end Sys2Proof
end

