-- ==== Sys2Proof/Config.lean ====
section
/-! DEFINITION. What is fixed for one machine: the named parameters of spec/00_scope.md R8, the launch input
`RESET_REGS`, and the source of free values. The spec's defaults are in Machine/Defaults.lean. -/

namespace Sys2Proof

/-- `SUB_AC_READING` (R8, R37, D9): which nibble comparison gives the auxiliary carry of a subtraction. -/
inductive SubAcReading where
  /-- `(a & 0xF) < ((b + bin) & 0xF)`, the default -/
  | literal
  /-- `(a & 0xF) < (b & 0xF) + bin` -/
  | nibble
deriving DecidableEq, Repr

/-- `ANA_AC_RULE` (R8, R38, D10): the auxiliary carry after ANA and ANI. -/
inductive AnaAcRule where
  /-- bit 2 of `a OR b`, the default -/
  | bit2Or
  /-- bit 3 of `a OR b` -/
  | bit3Or
  /-- bit 2 of `a AND b`: the third value that N6 says a model of such a build needs (log 7, DESIGN CHOICE) -/
  | bit2And
deriving DecidableEq, Repr

/-- `DAA_MODE` (R8, R149, D11). -/
inductive DaaMode where
  /-- the decimal adjustment, the default -/
  | reference
  /-- A takes the correction byte alone and the five flags take any value -/
  | sourceLiteral
deriving DecidableEq, Repr

/-- `TRAP_PC_REPORT` (R8, R222, D16): the program-counter value the trap reports. -/
inductive TrapPcReport where
  /-- the address of the unimplemented opcode, the default -/
  | opcodeAddress
  /-- that address plus one, the value `pc` holds when the handler lookup fails -/
  | advanced
deriving DecidableEq, Repr

/-- `LOAD_OVERFLOW` (R8, R235, D17): a load of more than 65536 bytes. -/
inductive LoadOverflow where
  /-- byte `i` goes to cell `i mod 65536`, the default -/
  | wrap
  /-- bytes from index 65536 on are ignored -/
  | truncate
deriving DecidableEq, Repr

/-- The parameters of R8 that stay fixed for the machine's lifetime. -/
structure Config where
  /-- the opcodes of R86 that this build lacks: `IMPLEMENTED` is R86's set less these (log 3) -/
  removed : List Byte
  /-- the entries of `CYCLES(op)` that differ from the default table of R246 (log 4) -/
  cycleCounts : List (Byte × Nat)
  subAc : SubAcReading
  anaAc : AnaAcRule
  daa : DaaMode
  trapPc : TrapPcReport
  loadOverflow : LoadOverflow
deriving DecidableEq, Repr

/-- A cycle count is "a small positive integer" (R245), returned as a `u32`: what the entries of
`CYCLES(op)` must meet. -/
abbrev Config.Wf (c : Config) : Prop := ∀ e ∈ c.cycleCounts, 0 < e.2 ∧ e.2 < 2 ^ 32

/-- `RESET_REGS` (R8, R44, D4, D20): the launch input that fills every register, SP and all eight bits of the
flags cell at creation. -/
structure ResetRegs where
  a : Byte
  b : Byte
  c : Byte
  d : Byte
  e : Byte
  h : Byte
  l : Byte
  f : Byte
  sp : Word
deriving DecidableEq, Repr

/-- FREE VALUES (log 10): bytes that nothing constrains. Used where the spec says "any value": the flags
after DAA under `source_literal` (R149), memory after a failed load (R236). -/
opaque Config.freeByte : Nat → Byte

end Sys2Proof
end

