-- ==== Sys2Proof/Machine/Defaults.lean ====
section
/-! DEFINITION. The parameters' values at reset: the defaults of spec/00_scope.md R8, and the values this model names
for the registers that the spec leaves to the launch input `RESET_REGS`. -/

namespace Sys2Proof.Machine

/-- The defaults of R8: `IMPLEMENTED` whole (R86), `CYCLES` the table of R246, `SUB_AC_READING = literal`,
`ANA_AC_RULE = bit2_or`, `DAA_MODE = reference`, `TRAP_PC_REPORT = opcode_address`, `LOAD_OVERFLOW = wrap`. -/
def defaultConfig : Config where
  removed := []
  cycleCounts := []
  subAc := .literal
  anaAc := .bit2Or
  daa := .reference
  trapPc := .opcodeAddress
  loadOverflow := .wrap

/-- DESIGN CHOICE (log 1): zero in every cell of `RESET_REGS`, which R44 leaves unspecified. -/
def resetRegs : ResetRegs where
  a := 0
  b := 0
  c := 0
  d := 0
  e := 0
  h := 0
  l := 0
  f := 0
  sp := 0

end Sys2Proof.Machine
end

