-- ==== Sys2Proof/Syntax.lean ====
section
/-! DEFINITION. The instructions: one constructor for each mnemonic of spec/opcode_table.json, and the operand
shapes of spec/30_encoding.md R79 to R82 as types. The `Instr.<family>` functions below name a constructor by its
operands; they hold no meaning. -/

namespace Sys2Proof

/-- The seven 8-bit registers (R79, field values 0 to 5 and 7). -/
inductive Reg where
  | b | c | d | e | h | l | a
deriving DecidableEq, Repr

/-- What a register field names (R79): a register, or for value 6 the memory byte at HL. -/
inductive Operand where
  | reg (r : Reg)
  | m
deriving DecidableEq, Repr

/-- What a register-pair field names (R80): BC, DE, HL or the stack pointer. -/
inductive Pair where
  | bc | de | hl | sp
deriving DecidableEq, Repr

/-- The pairs that LDAX and STAX take (R80: "only values 0 and 1 exist"). -/
inductive IndirectPair where
  | bc | de
deriving DecidableEq, Repr

/-- The operations of the ALU field (R82). -/
inductive AluOp where
  | add | adc | sub | sbb | ana | xra | ora | cmp
deriving DecidableEq, Repr

/-- The second operand of an ALU instruction (R82, R85): a register, the memory byte at HL, an immediate byte. -/
inductive Source where
  | reg (r : Reg)
  | m
  | imm (data : Byte)
deriving DecidableEq, Repr

/-- The condition field (R81). -/
inductive Cond where
  | nz | z | nc | c | po | pe | p | m
deriving DecidableEq, Repr

/-- The instructions. A constructor's name is its mnemonic in spec/opcode_table.json, register operands run
together (`MOV_B_C` is `movBC`); an immediate byte, datum or address is its argument (R83, R84). -/
inductive Instr where
  -- MOV r1,r2 (R100)
  | movBB | movBC | movBD | movBE | movBH | movBL | movBA | movCB | movCC | movCD | movCE | movCH | movCL
  | movCA | movDB | movDC | movDD | movDE | movDH | movDL | movDA | movEB | movEC | movED | movEE | movEH
  | movEL | movEA | movHB | movHC | movHD | movHE | movHH | movHL | movHA | movLB | movLC | movLD | movLE
  | movLH | movLL | movLA | movAB | movAC | movAD | movAE | movAH | movAL | movAA
  -- MOV r,M (R101)
  | movBM | movCM | movDM | movEM | movHM | movLM | movAM
  -- MOV M,r (R102)
  | movMB | movMC | movMD | movME | movMH | movML | movMA
  -- MVI r (R103), MVI M (R104)
  | mviB (data : Byte) | mviC (data : Byte) | mviD (data : Byte) | mviE (data : Byte) | mviH (data : Byte)
  | mviL (data : Byte) | mviM (data : Byte) | mviA (data : Byte)
  -- LXI (R105)
  | lxiB (data : Word) | lxiD (data : Word) | lxiH (data : Word) | lxiSP (data : Word)
  -- LDA (R106), STA (R107), LDAX (R108), STAX (R109)
  | staxB | ldaxB | staxD | ldaxD | sta (addr : Word) | lda (addr : Word)
  -- LHLD (R110), SHLD (R111), XCHG (R112)
  | shld (addr : Word) | lhld (addr : Word) | xchg
  -- ADD r, ADD M, ADI (R130 to R132)
  | addB | addC | addD | addE | addH | addL | addM | addA | adi (data : Byte)
  -- ADC r, ADC M, ACI (R133 to R135)
  | adcB | adcC | adcD | adcE | adcH | adcL | adcM | adcA | aci (data : Byte)
  -- SUB r, SUB M, SUI (R136 to R138)
  | subB | subC | subD | subE | subH | subL | subM | subA | sui (data : Byte)
  -- SBB r, SBB M, SBI (R139 to R141)
  | sbbB | sbbC | sbbD | sbbE | sbbH | sbbL | sbbM | sbbA | sbi (data : Byte)
  -- INR r (R142), INR M (R143)
  | inrB | inrC | inrD | inrE | inrH | inrL | inrM | inrA
  -- DCR r (R144), DCR M (R145)
  | dcrB | dcrC | dcrD | dcrE | dcrH | dcrL | dcrM | dcrA
  -- INX (R146)
  | inxB | inxD | inxH | inxSP
  -- DCX (R147)
  | dcxB | dcxD | dcxH | dcxSP
  -- DAD (R148)
  | dadB | dadD | dadH | dadSP
  -- DAA (R149)
  | daa
  -- ANA r, ANA M, ANI (R160 to R162)
  | anaB | anaC | anaD | anaE | anaH | anaL | anaM | anaA | ani (data : Byte)
  -- XRA r, XRA M, XRI (R163 to R165)
  | xraB | xraC | xraD | xraE | xraH | xraL | xraM | xraA | xri (data : Byte)
  -- ORA r, ORA M, ORI (R166 to R168)
  | oraB | oraC | oraD | oraE | oraH | oraL | oraM | oraA | ori (data : Byte)
  -- CMP r, CMP M, CPI (R169 to R171)
  | cmpB | cmpC | cmpD | cmpE | cmpH | cmpL | cmpM | cmpA | cpi (data : Byte)
  -- RLC (R172), RRC (R173), RAL (R174), RAR (R175)
  | rlc | rrc | ral | rar
  -- CMA (R176), CMC (R177), STC (R178)
  | cma | stc | cmc
  -- JMP (R200), the conditional jumps (R201 to R208)
  | jnz (addr : Word) | jmp (addr : Word) | jz (addr : Word) | jnc (addr : Word) | jc (addr : Word)
  | jpo (addr : Word) | jpe (addr : Word) | jp (addr : Word) | jm (addr : Word)
  -- CALL (R209), RET (R210)
  | ret | call (addr : Word)
  -- the 53 opcode bytes outside IMPLEMENTED (R87), all under the one mnemonic UNIMPLEMENTED
  | unimplemented (op : Byte)
deriving DecidableEq, Repr

/-- MOV r1,r2 by its registers, destination first (R100). -/
def Instr.mov : Reg → Reg → Instr
  | .b, .b => .movBB | .b, .c => .movBC | .b, .d => .movBD | .b, .e => .movBE | .b, .h => .movBH | .b, .l => .movBL | .b, .a => .movBA
  | .c, .b => .movCB | .c, .c => .movCC | .c, .d => .movCD | .c, .e => .movCE | .c, .h => .movCH | .c, .l => .movCL | .c, .a => .movCA
  | .d, .b => .movDB | .d, .c => .movDC | .d, .d => .movDD | .d, .e => .movDE | .d, .h => .movDH | .d, .l => .movDL | .d, .a => .movDA
  | .e, .b => .movEB | .e, .c => .movEC | .e, .d => .movED | .e, .e => .movEE | .e, .h => .movEH | .e, .l => .movEL | .e, .a => .movEA
  | .h, .b => .movHB | .h, .c => .movHC | .h, .d => .movHD | .h, .e => .movHE | .h, .h => .movHH | .h, .l => .movHL | .h, .a => .movHA
  | .l, .b => .movLB | .l, .c => .movLC | .l, .d => .movLD | .l, .e => .movLE | .l, .h => .movLH | .l, .l => .movLL | .l, .a => .movLA
  | .a, .b => .movAB | .a, .c => .movAC | .a, .d => .movAD | .a, .e => .movAE | .a, .h => .movAH | .a, .l => .movAL | .a, .a => .movAA

/-- MOV r,M by its destination (R101). -/
def Instr.movFromM : Reg → Instr
  | .b => .movBM | .c => .movCM | .d => .movDM | .e => .movEM | .h => .movHM | .l => .movLM | .a => .movAM

/-- MOV M,r by its source (R102). -/
def Instr.movToM : Reg → Instr
  | .b => .movMB | .c => .movMC | .d => .movMD | .e => .movME | .h => .movMH | .l => .movML | .a => .movMA

/-- MVI by its destination (R103, R104). -/
def Instr.mvi (x : Operand) (data : Byte) : Instr :=
  match x with
  | .reg .b => .mviB data | .reg .c => .mviC data | .reg .d => .mviD data | .reg .e => .mviE data
  | .reg .h => .mviH data | .reg .l => .mviL data | .reg .a => .mviA data | .m => .mviM data

/-- LXI by its pair (R105). -/
def Instr.lxi (p : Pair) (data : Word) : Instr :=
  match p with
  | .bc => .lxiB data | .de => .lxiD data | .hl => .lxiH data | .sp => .lxiSP data

/-- LDAX by its pair (R108). -/
def Instr.ldax : IndirectPair → Instr
  | .bc => .ldaxB | .de => .ldaxD

/-- STAX by its pair (R109). -/
def Instr.stax : IndirectPair → Instr
  | .bc => .staxB | .de => .staxD

/-- INR by its operand (R142, R143). -/
def Instr.inr : Operand → Instr
  | .reg .b => .inrB | .reg .c => .inrC | .reg .d => .inrD | .reg .e => .inrE | .reg .h => .inrH | .reg .l => .inrL | .reg .a => .inrA | .m => .inrM

/-- DCR by its operand (R144, R145). -/
def Instr.dcr : Operand → Instr
  | .reg .b => .dcrB | .reg .c => .dcrC | .reg .d => .dcrD | .reg .e => .dcrE | .reg .h => .dcrH | .reg .l => .dcrL | .reg .a => .dcrA | .m => .dcrM

/-- INX by its pair (R146). -/
def Instr.inx : Pair → Instr
  | .bc => .inxB | .de => .inxD | .hl => .inxH | .sp => .inxSP

/-- DCX by its pair (R147). -/
def Instr.dcx : Pair → Instr
  | .bc => .dcxB | .de => .dcxD | .hl => .dcxH | .sp => .dcxSP

/-- DAD by its pair (R148). -/
def Instr.dad : Pair → Instr
  | .bc => .dadB | .de => .dadD | .hl => .dadH | .sp => .dadSP

/-- The ALU instructions by operation and second operand (R82; R130 to R141, R160 to R171). -/
def Instr.alu : AluOp → Source → Instr
  | .add, .reg .b => .addB | .add, .reg .c => .addC | .add, .reg .d => .addD | .add, .reg .e => .addE
  | .add, .reg .h => .addH | .add, .reg .l => .addL | .add, .reg .a => .addA | .add, .m => .addM | .add, .imm data => .adi data
  | .adc, .reg .b => .adcB | .adc, .reg .c => .adcC | .adc, .reg .d => .adcD | .adc, .reg .e => .adcE
  | .adc, .reg .h => .adcH | .adc, .reg .l => .adcL | .adc, .reg .a => .adcA | .adc, .m => .adcM | .adc, .imm data => .aci data
  | .sub, .reg .b => .subB | .sub, .reg .c => .subC | .sub, .reg .d => .subD | .sub, .reg .e => .subE
  | .sub, .reg .h => .subH | .sub, .reg .l => .subL | .sub, .reg .a => .subA | .sub, .m => .subM | .sub, .imm data => .sui data
  | .sbb, .reg .b => .sbbB | .sbb, .reg .c => .sbbC | .sbb, .reg .d => .sbbD | .sbb, .reg .e => .sbbE
  | .sbb, .reg .h => .sbbH | .sbb, .reg .l => .sbbL | .sbb, .reg .a => .sbbA | .sbb, .m => .sbbM | .sbb, .imm data => .sbi data
  | .ana, .reg .b => .anaB | .ana, .reg .c => .anaC | .ana, .reg .d => .anaD | .ana, .reg .e => .anaE
  | .ana, .reg .h => .anaH | .ana, .reg .l => .anaL | .ana, .reg .a => .anaA | .ana, .m => .anaM | .ana, .imm data => .ani data
  | .xra, .reg .b => .xraB | .xra, .reg .c => .xraC | .xra, .reg .d => .xraD | .xra, .reg .e => .xraE
  | .xra, .reg .h => .xraH | .xra, .reg .l => .xraL | .xra, .reg .a => .xraA | .xra, .m => .xraM | .xra, .imm data => .xri data
  | .ora, .reg .b => .oraB | .ora, .reg .c => .oraC | .ora, .reg .d => .oraD | .ora, .reg .e => .oraE
  | .ora, .reg .h => .oraH | .ora, .reg .l => .oraL | .ora, .reg .a => .oraA | .ora, .m => .oraM | .ora, .imm data => .ori data
  | .cmp, .reg .b => .cmpB | .cmp, .reg .c => .cmpC | .cmp, .reg .d => .cmpD | .cmp, .reg .e => .cmpE
  | .cmp, .reg .h => .cmpH | .cmp, .reg .l => .cmpL | .cmp, .reg .a => .cmpA | .cmp, .m => .cmpM | .cmp, .imm data => .cpi data

/-- The conditional jumps by condition (R201 to R208). -/
def Instr.jcond (cond : Cond) (addr : Word) : Instr :=
  match cond with
  | .nz => .jnz addr | .z => .jz addr | .nc => .jnc addr | .c => .jc addr
  | .po => .jpo addr | .pe => .jpe addr | .p => .jp addr | .m => .jm addr

end Sys2Proof
end

