-- ==== Sys2Proof/Decode.lean ====
section
/-! DEFINITION. Decoding (spec/30_encoding.md R70 to R91) and the encoder. The decoder reads the opcode byte's fields
(R77 to R82); the encoder is written from the opcode map (R91, opcode_table.json), so each checks the other. -/

namespace Sys2Proof

/-! ### Bytes and words -/

/-- `{hi, lo}` (R9, R24): the 16-bit value with `hi` in bits 15:8. -/
def joinBytes (hi lo : Byte) : Word := hi ++ lo

/-- `v[15:8]` (R9, R24). -/
def hiByte (v : Word) : Byte := v.extractLsb' 8 8

/-- `v[7:0]` (R9, R24). -/
def loByte (v : Word) : Byte := v.extractLsb' 0 8

/-! ### IMPLEMENTED (R86, R87) -/

/-- R86: the default `IMPLEMENTED`, family by family. -/
def defaultImplemented (op : Byte) : Bool :=
  -- MOV: 0x40 to 0x7F except 0x76
  (0x40#8 ≤ op && op ≤ 0x7F#8 && op != 0x76#8)
  -- ADD, ADC, SUB, SBB: 0x80 to 0x9F; ANA, XRA, ORA: 0xA0 to 0xB7; CMP: 0xB8 to 0xBF
  || (0x80#8 ≤ op && op ≤ 0xBF#8)
  -- MVI 00ddd110, INR 00ddd100, DCR 00ddd101
  || (op.extractLsb' 6 2 == 0b00#2 &&
      (op.extractLsb' 0 3 == 0b110#3 || op.extractLsb' 0 3 == 0b100#3 || op.extractLsb' 0 3 == 0b101#3))
  -- LXI, INX, DCX, DAD
  || (op.extractLsb' 6 2 == 0b00#2 &&
      (op.extractLsb' 0 4 == 0x1#4 || op.extractLsb' 0 4 == 0x3#4 || op.extractLsb' 0 4 == 0xB#4 ||
       op.extractLsb' 0 4 == 0x9#4))
  -- LDA, STA, LDAX, STAX, LHLD, SHLD
  || [0x3A#8, 0x32#8, 0x0A#8, 0x1A#8, 0x02#8, 0x12#8, 0x2A#8, 0x22#8].contains op
  -- RLC, RRC, RAL, RAR, DAA, CMA, CMC, STC
  || [0x07#8, 0x0F#8, 0x17#8, 0x1F#8, 0x27#8, 0x2F#8, 0x3F#8, 0x37#8].contains op
  -- ADI, ACI, SUI, SBI, ANI, XRI, ORI, CPI
  || [0xC6#8, 0xCE#8, 0xD6#8, 0xDE#8, 0xE6#8, 0xEE#8, 0xF6#8, 0xFE#8].contains op
  -- JMP, J<cond>
  || [0xC3#8, 0xC2#8, 0xCA#8, 0xD2#8, 0xDA#8, 0xE2#8, 0xEA#8, 0xF2#8, 0xFA#8].contains op
  -- CALL, RET, XCHG
  || [0xCD#8, 0xC9#8, 0xEB#8].contains op

/-- `op ∈ IMPLEMENTED` for a build: R86's set less the opcodes the build lacks ("a model of a build that
implements fewer opcodes removes them from the set"). -/
def Config.implements (c : Config) (op : Byte) : Bool :=
  defaultImplemented op && !c.removed.contains op

/-! ### Lengths (R75, R76) -/

/-- R76: the number of bytes of the instruction that starts with `op`; for an unimplemented opcode, the one byte
that the trapping step reads (R221). -/
def opcodeLength (op : Byte) : Nat :=
  if op.extractLsb' 6 2 == 0b00#2 && op.extractLsb' 0 3 == 0b110#3 then 2          -- MVI
  else if op.extractLsb' 6 2 == 0b11#2 && op.extractLsb' 0 3 == 0b110#3 then 2     -- ADI to CPI
  else if op.extractLsb' 6 2 == 0b00#2 && op.extractLsb' 0 4 == 0x1#4 then 3       -- LXI
  else if [0x22#8, 0x2A#8, 0x32#8, 0x3A#8].contains op then 3                      -- SHLD, LHLD, STA, LDA
  else if op == 0xC3#8 || op == 0xCD#8 then 3                                      -- JMP, CALL
  else if op.extractLsb' 6 2 == 0b11#2 && op.extractLsb' 0 3 == 0b010#3 then 3     -- J<cond>
  else 1

/-! ### Field codes (R79 to R82) -/

/-- R79, read: what a register field names. -/
def operandOf (x : BitVec 3) : Operand :=
  match x with
  | 0b000#3 => .reg .b
  | 0b001#3 => .reg .c
  | 0b010#3 => .reg .d
  | 0b011#3 => .reg .e
  | 0b100#3 => .reg .h
  | 0b101#3 => .reg .l
  | 0b110#3 => .m
  | _ => .reg .a

/-- R79, written: a register's code. -/
def Reg.code : Reg → BitVec 3
  | .b => 0b000#3 | .c => 0b001#3 | .d => 0b010#3 | .e => 0b011#3
  | .h => 0b100#3 | .l => 0b101#3 | .a => 0b111#3

/-- R79, written: an operand's code; 6 is M. -/
def Operand.code : Operand → BitVec 3
  | .reg r => r.code
  | .m => 0b110#3

/-- R80, read. -/
def pairOf (x : BitVec 2) : Pair :=
  match x with
  | 0b00#2 => .bc
  | 0b01#2 => .de
  | 0b10#2 => .hl
  | _ => .sp

/-- R80, written. -/
def Pair.code : Pair → BitVec 2
  | .bc => 0b00#2 | .de => 0b01#2 | .hl => 0b10#2 | .sp => 0b11#2

/-- R80, written, for LDAX and STAX: the one bit that is left of the field. -/
def IndirectPair.code : IndirectPair → BitVec 1
  | .bc => 0b0#1 | .de => 0b1#1

/-- R82, read. -/
def aluOpOf (x : BitVec 3) : AluOp :=
  match x with
  | 0b000#3 => .add
  | 0b001#3 => .adc
  | 0b010#3 => .sub
  | 0b011#3 => .sbb
  | 0b100#3 => .ana
  | 0b101#3 => .xra
  | 0b110#3 => .ora
  | _ => .cmp

/-- R82, written. -/
def AluOp.code : AluOp → BitVec 3
  | .add => 0b000#3 | .adc => 0b001#3 | .sub => 0b010#3 | .sbb => 0b011#3
  | .ana => 0b100#3 | .xra => 0b101#3 | .ora => 0b110#3 | .cmp => 0b111#3

/-- R81, read. -/
def condOf (x : BitVec 3) : Cond :=
  match x with
  | 0b000#3 => .nz
  | 0b001#3 => .z
  | 0b010#3 => .nc
  | 0b011#3 => .c
  | 0b100#3 => .po
  | 0b101#3 => .pe
  | 0b110#3 => .p
  | _ => .m

/-- R81, written. -/
def Cond.code : Cond → BitVec 3
  | .nz => 0b000#3 | .z => 0b001#3 | .nc => 0b010#3 | .c => 0b011#3
  | .po => 0b100#3 | .pe => 0b101#3 | .p => 0b110#3 | .m => 0b111#3

/-! ### The decoder -/

/-- The second operand that the `sss` field names. -/
def Operand.toSource : Operand → Source
  | .reg r => .reg r
  | .m => .m

/-- Group 01 (R78): MOV, but for 0x76. -/
def decodeMov (op : Byte) (d s : Operand) : Instr :=
  match d, s with
  | .reg dst, .reg src => .mov dst src
  | .reg dst, .m => .movFromM dst
  | .m, .reg src => .movToM src
  | .m, .m => .unimplemented op

/-- Group 00 with low bits 010 (R78): the loads and stores of A and HL. -/
def decodeLoadStore (y : BitVec 3) (w : Word) : Instr :=
  match y with
  | 0b000#3 => .stax .bc
  | 0b001#3 => .ldax .bc
  | 0b010#3 => .stax .de
  | 0b011#3 => .ldax .de
  | 0b100#3 => .shld w
  | 0b101#3 => .lhld w
  | 0b110#3 => .sta w
  | _ => .lda w

/-- Group 00 with low bits 111 (R78): rotates, DAA, CMA, STC, CMC. -/
def decodeAccumulator (y : BitVec 3) : Instr :=
  match y with
  | 0b000#3 => .rlc
  | 0b001#3 => .rrc
  | 0b010#3 => .ral
  | 0b011#3 => .rar
  | 0b100#3 => .daa
  | 0b101#3 => .cma
  | 0b110#3 => .stc
  | _ => .cmc

/-- Group 00 (R78), by bits 2:0, with `y` bits 5:3; bit 3 splits LXI from DAD and INX from DCX. -/
def decodeGroup00 (op b1 : Byte) (w : Word) : Instr :=
  let y := op.extractLsb' 3 3
  let p := pairOf (op.extractLsb' 4 2)
  match op.extractLsb' 0 3 with
  | 0b000#3 => .unimplemented op
  | 0b001#3 => if op.getLsbD 3 then .dad p else .lxi p w
  | 0b010#3 => decodeLoadStore y w
  | 0b011#3 => if op.getLsbD 3 then .dcx p else .inx p
  | 0b100#3 => .inr (operandOf y)
  | 0b101#3 => .dcr (operandOf y)
  | 0b110#3 => .mvi (operandOf y) b1
  | _ => decodeAccumulator y

/-- Group 11 (R78), by bits 2:0. -/
def decodeGroup11 (op b1 : Byte) (w : Word) : Instr :=
  let y := op.extractLsb' 3 3
  match op.extractLsb' 0 3 with
  | 0b010#3 => .jcond (condOf y) w
  | 0b110#3 => .alu (aluOpOf y) (.imm b1)
  | 0b011#3 => if y == 0b000#3 then .jmp w else if y == 0b101#3 then .xchg else .unimplemented op
  | 0b101#3 => if y == 0b001#3 then .call w else .unimplemented op
  | 0b001#3 => if y == 0b001#3 then .ret else .unimplemented op
  | _ => .unimplemented op

/-- R72, R73: the single flat decision over the opcode byte, for the full set of R86. `b1` and `b2` are the two
bytes that follow; an instruction uses those that its length (R76) covers. -/
def decodeOpcode (op b1 b2 : Byte) : Instr :=
  let w := joinBytes b2 b1
  match op.extractLsb' 6 2 with
  | 0b00#2 => decodeGroup00 op b1 w
  | 0b01#2 => decodeMov op (operandOf (op.extractLsb' 3 3)) (operandOf (op.extractLsb' 0 3))
  | 0b10#2 => .alu (aluOpOf (op.extractLsb' 3 3)) (operandOf (op.extractLsb' 0 3)).toSource
  | _ => decodeGroup11 op b1 w

/-- R70, R72, R87: the decision of a build. An opcode outside its `IMPLEMENTED` is unimplemented. -/
def decodeInstr (c : Config) (op b1 b2 : Byte) : Instr :=
  if c.implements op then decodeOpcode op b1 b2 else .unimplemented op

/-- Why a byte list holds no whole instruction. Every opcode byte decodes (R73), so a list can only be short. -/
inductive DecodeError where
  /-- no byte at all -/
  | empty
  /-- the instruction of this opcode is longer than the list -/
  | truncated (op : Byte)
deriving DecidableEq, Repr

/-- R70, R75, R84: an implemented opcode, its length, and the bytes after it: the decision on its immediates, and the
bytes that are left. -/
def takeImmediates (c : Config) (op : Byte) (len : Nat) (rest : List Byte) :
    Except DecodeError (Instr × List Byte) :=
  match len, rest with
  | 1, rest => .ok (decodeInstr c op 0 0, rest)
  | 2, b1 :: rest => .ok (decodeInstr c op b1 0, rest)
  | 3, b1 :: b2 :: rest => .ok (decodeInstr c op b1 b2, rest)
  | _, _ => .error (.truncated op)

/-- Decoding a byte list: the instruction at its head and the bytes after it. An unimplemented opcode takes one
byte (R221). -/
def decode (c : Config) (bytes : List Byte) : Except DecodeError (Instr × List Byte) :=
  match bytes with
  | [] => .error .empty
  | op :: rest =>
    if c.implements op then takeImmediates c op (opcodeLength op) rest else .ok (.unimplemented op, rest)

/-! ### The encoder -/

/-- The opcode byte of an instruction (R91, opcode_table.json). -/
def Instr.opcode : Instr → Byte
  -- MOV r1,r2 (R100)
  | .movBB => 0x40 | .movBC => 0x41 | .movBD => 0x42 | .movBE => 0x43 | .movBH => 0x44 | .movBL => 0x45
  | .movBA => 0x47 | .movCB => 0x48 | .movCC => 0x49 | .movCD => 0x4A | .movCE => 0x4B | .movCH => 0x4C
  | .movCL => 0x4D | .movCA => 0x4F | .movDB => 0x50 | .movDC => 0x51 | .movDD => 0x52 | .movDE => 0x53
  | .movDH => 0x54 | .movDL => 0x55 | .movDA => 0x57 | .movEB => 0x58 | .movEC => 0x59 | .movED => 0x5A
  | .movEE => 0x5B | .movEH => 0x5C | .movEL => 0x5D | .movEA => 0x5F | .movHB => 0x60 | .movHC => 0x61
  | .movHD => 0x62 | .movHE => 0x63 | .movHH => 0x64 | .movHL => 0x65 | .movHA => 0x67 | .movLB => 0x68
  | .movLC => 0x69 | .movLD => 0x6A | .movLE => 0x6B | .movLH => 0x6C | .movLL => 0x6D | .movLA => 0x6F
  | .movAB => 0x78 | .movAC => 0x79 | .movAD => 0x7A | .movAE => 0x7B | .movAH => 0x7C | .movAL => 0x7D
  | .movAA => 0x7F
  -- MOV r,M (R101)
  | .movBM => 0x46 | .movCM => 0x4E | .movDM => 0x56 | .movEM => 0x5E | .movHM => 0x66 | .movLM => 0x6E
  | .movAM => 0x7E
  -- MOV M,r (R102)
  | .movMB => 0x70 | .movMC => 0x71 | .movMD => 0x72 | .movME => 0x73 | .movMH => 0x74 | .movML => 0x75
  | .movMA => 0x77
  -- MVI r (R103), MVI M (R104)
  | .mviB _ => 0x06 | .mviC _ => 0x0E | .mviD _ => 0x16 | .mviE _ => 0x1E | .mviH _ => 0x26 | .mviL _ => 0x2E
  | .mviM _ => 0x36 | .mviA _ => 0x3E
  -- LXI (R105)
  | .lxiB _ => 0x01 | .lxiD _ => 0x11 | .lxiH _ => 0x21 | .lxiSP _ => 0x31
  -- LDA (R106), STA (R107), LDAX (R108), STAX (R109)
  | .staxB => 0x02 | .ldaxB => 0x0A | .staxD => 0x12 | .ldaxD => 0x1A | .sta _ => 0x32 | .lda _ => 0x3A
  -- LHLD (R110), SHLD (R111), XCHG (R112)
  | .shld _ => 0x22 | .lhld _ => 0x2A | .xchg => 0xEB
  -- ADD r, ADD M, ADI (R130 to R132)
  | .addB => 0x80 | .addC => 0x81 | .addD => 0x82 | .addE => 0x83 | .addH => 0x84 | .addL => 0x85
  | .addM => 0x86 | .addA => 0x87 | .adi _ => 0xC6
  -- ADC r, ADC M, ACI (R133 to R135)
  | .adcB => 0x88 | .adcC => 0x89 | .adcD => 0x8A | .adcE => 0x8B | .adcH => 0x8C | .adcL => 0x8D
  | .adcM => 0x8E | .adcA => 0x8F | .aci _ => 0xCE
  -- SUB r, SUB M, SUI (R136 to R138)
  | .subB => 0x90 | .subC => 0x91 | .subD => 0x92 | .subE => 0x93 | .subH => 0x94 | .subL => 0x95
  | .subM => 0x96 | .subA => 0x97 | .sui _ => 0xD6
  -- SBB r, SBB M, SBI (R139 to R141)
  | .sbbB => 0x98 | .sbbC => 0x99 | .sbbD => 0x9A | .sbbE => 0x9B | .sbbH => 0x9C | .sbbL => 0x9D
  | .sbbM => 0x9E | .sbbA => 0x9F | .sbi _ => 0xDE
  -- INR r (R142), INR M (R143)
  | .inrB => 0x04 | .inrC => 0x0C | .inrD => 0x14 | .inrE => 0x1C | .inrH => 0x24 | .inrL => 0x2C
  | .inrM => 0x34 | .inrA => 0x3C
  -- DCR r (R144), DCR M (R145)
  | .dcrB => 0x05 | .dcrC => 0x0D | .dcrD => 0x15 | .dcrE => 0x1D | .dcrH => 0x25 | .dcrL => 0x2D
  | .dcrM => 0x35 | .dcrA => 0x3D
  -- INX (R146)
  | .inxB => 0x03 | .inxD => 0x13 | .inxH => 0x23 | .inxSP => 0x33
  -- DCX (R147)
  | .dcxB => 0x0B | .dcxD => 0x1B | .dcxH => 0x2B | .dcxSP => 0x3B
  -- DAD (R148)
  | .dadB => 0x09 | .dadD => 0x19 | .dadH => 0x29 | .dadSP => 0x39
  -- DAA (R149)
  | .daa => 0x27
  -- ANA r, ANA M, ANI (R160 to R162)
  | .anaB => 0xA0 | .anaC => 0xA1 | .anaD => 0xA2 | .anaE => 0xA3 | .anaH => 0xA4 | .anaL => 0xA5
  | .anaM => 0xA6 | .anaA => 0xA7 | .ani _ => 0xE6
  -- XRA r, XRA M, XRI (R163 to R165)
  | .xraB => 0xA8 | .xraC => 0xA9 | .xraD => 0xAA | .xraE => 0xAB | .xraH => 0xAC | .xraL => 0xAD
  | .xraM => 0xAE | .xraA => 0xAF | .xri _ => 0xEE
  -- ORA r, ORA M, ORI (R166 to R168)
  | .oraB => 0xB0 | .oraC => 0xB1 | .oraD => 0xB2 | .oraE => 0xB3 | .oraH => 0xB4 | .oraL => 0xB5
  | .oraM => 0xB6 | .oraA => 0xB7 | .ori _ => 0xF6
  -- CMP r, CMP M, CPI (R169 to R171)
  | .cmpB => 0xB8 | .cmpC => 0xB9 | .cmpD => 0xBA | .cmpE => 0xBB | .cmpH => 0xBC | .cmpL => 0xBD
  | .cmpM => 0xBE | .cmpA => 0xBF | .cpi _ => 0xFE
  -- RLC (R172), RRC (R173), RAL (R174), RAR (R175)
  | .rlc => 0x07 | .rrc => 0x0F | .ral => 0x17 | .rar => 0x1F
  -- CMA (R176), CMC (R177), STC (R178)
  | .cma => 0x2F | .stc => 0x37 | .cmc => 0x3F
  -- JMP (R200), the conditional jumps (R201 to R208)
  | .jnz _ => 0xC2 | .jmp _ => 0xC3 | .jz _ => 0xCA | .jnc _ => 0xD2 | .jc _ => 0xDA | .jpo _ => 0xE2
  | .jpe _ => 0xEA | .jp _ => 0xF2 | .jm _ => 0xFA
  -- CALL (R209), RET (R210)
  | .ret => 0xC9 | .call _ => 0xCD
  | .unimplemented op => op

/-- The immediate bytes that follow the opcode: `data8`, or the low byte of `data16` and then its high byte
(R75, R83, R84). -/
def Instr.immediates : Instr → List Byte
  | .mviB x | .mviC x | .mviD x | .mviE x | .mviH x | .mviL x | .mviM x | .mviA x | .adi x | .aci x | .sui x
  | .sbi x | .ani x | .xri x | .ori x | .cpi x => [x]
  | .lxiB w | .lxiD w | .lxiH w | .lxiSP w | .sta w | .lda w | .shld w | .lhld w | .jnz w | .jmp w | .jz w
  | .jnc w | .jc w | .jpo w | .jpe w | .jp w | .jm w | .call w => [loByte w, hiByte w]
  | .movBB | .movBC | .movBD | .movBE | .movBH | .movBL | .movBA | .movCB | .movCC | .movCD | .movCE | .movCH
  | .movCL | .movCA | .movDB | .movDC | .movDD | .movDE | .movDH | .movDL | .movDA | .movEB | .movEC | .movED
  | .movEE | .movEH | .movEL | .movEA | .movHB | .movHC | .movHD | .movHE | .movHH | .movHL | .movHA | .movLB
  | .movLC | .movLD | .movLE | .movLH | .movLL | .movLA | .movAB | .movAC | .movAD | .movAE | .movAH | .movAL
  | .movAA | .movBM | .movCM | .movDM | .movEM | .movHM | .movLM | .movAM | .movMB | .movMC | .movMD | .movME
  | .movMH | .movML | .movMA | .staxB | .ldaxB | .staxD | .ldaxD | .xchg | .addB | .addC | .addD | .addE
  | .addH | .addL | .addM | .addA | .adcB | .adcC | .adcD | .adcE | .adcH | .adcL | .adcM | .adcA | .subB
  | .subC | .subD | .subE | .subH | .subL | .subM | .subA | .sbbB | .sbbC | .sbbD | .sbbE | .sbbH | .sbbL
  | .sbbM | .sbbA | .inrB | .inrC | .inrD | .inrE | .inrH | .inrL | .inrM | .inrA | .dcrB | .dcrC | .dcrD
  | .dcrE | .dcrH | .dcrL | .dcrM | .dcrA | .inxB | .inxD | .inxH | .inxSP | .dcxB | .dcxD | .dcxH | .dcxSP
  | .dadB | .dadD | .dadH | .dadSP | .daa | .anaB | .anaC | .anaD | .anaE | .anaH | .anaL | .anaM | .anaA
  | .xraB | .xraC | .xraD | .xraE | .xraH | .xraL | .xraM | .xraA | .oraB | .oraC | .oraD | .oraE | .oraH
  | .oraL | .oraM | .oraA | .cmpB | .cmpC | .cmpD | .cmpE | .cmpH | .cmpL | .cmpM | .cmpA | .rlc | .rrc
  | .ral | .rar | .cma | .stc | .cmc | .ret
  | .unimplemented _ => []

/-- The bytes of an instruction. -/
def encode (i : Instr) : List Byte := i.opcode :: i.immediates

/-- The number of bytes of an instruction (R75). -/
def Instr.length (i : Instr) : Nat := 1 + i.immediates.length

/-! ### The host's reading of a table word -/

/-- Byte `k` of an instruction whose bits are `w`, `nbits` of them: bit 0 is the least significant bit of the first
byte, and every bit from `nbits` on is 0. -/
def tableByte (nbits w k : Nat) : Byte := BitVec.ofNat 8 ((w % 2 ^ nbits) >>> (8 * k))

/-- The instruction that the decoder of the default build reads from a table word. -/
def decodeTableWord (nbits w : Nat) : Option Instr :=
  match decode Machine.defaultConfig
      [tableByte nbits w 0, tableByte nbits w 1, tableByte nbits w 2] with
  | .ok (i, _) => some i
  | .error _ => none

end Sys2Proof
end

