-- ==== Sys2Proof/Machine/Flags.lean ====
section
/-! DEFINITION. The flags cell and the flag-update helpers (spec/10_state.md R29 to R38), as functions of the cell. -/

namespace Sys2Proof.Machine

/-- The five flags (R29). -/
inductive Flag where
  | s | z | ac | p | cy
deriving DecidableEq, Repr

/-- R29: a flag's bit in the cell. -/
def Flag.bit : Flag → Nat
  | .s => 7
  | .z => 6
  | .ac => 4
  | .p => 2
  | .cy => 0

/-- The mask of a flag's bit (R31). -/
def Flag.mask : Flag → Byte
  | .s => 0x80#8
  | .z => 0x40#8
  | .ac => 0x10#8
  | .p => 0x04#8
  | .cy => 0x01#8

/-- R31: the get accessor. -/
def getFlag (f : Byte) (x : Flag) : Bool := f.getLsbD x.bit

/-- R31: the set and clear accessors, a read-modify-write of one bit. -/
def setFlag (f : Byte) (x : Flag) (v : Bool) : Byte :=
  if v then f ||| x.mask else f &&& ~~~x.mask

/-- R31: the toggle accessor. -/
def toggleFlag (f : Byte) (x : Flag) : Byte := f ^^^ x.mask

/-- A write under an enable: "unaffected flags retain prior value". -/
def setFlagIf (en : Bool) (f : Byte) (x : Flag) (v : Bool) : Byte := if en then setFlag f x v else f

/-- The per-flag enables of the helpers. -/
structure Enables where
  z : Bool
  s : Bool
  p : Bool
  cy : Bool
  ac : Bool
deriving DecidableEq, Repr

/-- `ALL = {Z, S, P, CY, AC}` (41_arithmetic.md). -/
def Enables.all : Enables := ⟨true, true, true, true, true⟩

/-- `ZSPA = {Z, S, P, AC}` (41_arithmetic.md, section 2). -/
def Enables.zspa : Enables := ⟨true, true, true, false, true⟩

/-- `ZSP = {Z, S, P}` (42_logical.md). -/
def Enables.zsp : Enables := ⟨true, true, true, false, false⟩

/-- The number of set bits of a byte. -/
def setBits (v : Byte) : Nat :=
  (v.getLsbD 0).toNat + (v.getLsbD 1).toNat + (v.getLsbD 2).toNat + (v.getLsbD 3).toNat +
  (v.getLsbD 4).toNat + (v.getLsbD 5).toNat + (v.getLsbD 6).toNat + (v.getLsbD 7).toNat

/-- R11: 1 when the number of set bits is even. -/
def parity8 (v : Byte) : Bool := setBits v % 2 == 0

/-- `v & 0xF`, as a number. -/
def lowNibble (v : Byte) : Nat := v.toNat % 16

/-- R33: `set_flags(result, en)`: Z, S, P. -/
def setFlags (f result : Byte) (en : Enables) : Byte :=
  let f := setFlagIf en.z f .z (result == 0)
  let f := setFlagIf en.s f .s (result.getLsbD 7)
  setFlagIf en.p f .p (parity8 result)

/-- R34: `add8(a, b, cin)`. -/
def add8 (a b : Byte) (cin : Bool) : Byte := BitVec.ofNat 8 (a.toNat + b.toNat + cin.toNat)

/-- R35: the carry of an addition. -/
def addCarry (a b : Byte) (cin : Bool) : Bool := decide (a.toNat + b.toNat + cin.toNat > 0xFF)

/-- R35: the auxiliary carry of an addition. -/
def addAuxCarry (a b : Byte) (cin : Bool) : Bool := decide (lowNibble a + lowNibble b + cin.toNat > 0xF)

/-- R35: `set_flags_add(result, a, b, cin, en)`. -/
def setFlagsAdd (f result a b : Byte) (cin : Bool) (en : Enables) : Byte :=
  let f := setFlags f result en
  let f := setFlagIf en.cy f .cy (addCarry a b cin)
  setFlagIf en.ac f .ac (addAuxCarry a b cin)

/-- R36: `sub8(a, b, bin)`; bit-vector subtraction wraps modulo 256. -/
def sub8 (a b : Byte) (bin : Bool) : Byte := a - b - BitVec.ofNat 8 bin.toNat

/-- R37: the borrow of a subtraction; `b + bin` is computed without wrap. -/
def subBorrow (a b : Byte) (bin : Bool) : Bool := decide (a.toNat < b.toNat + bin.toNat)

/-- R37: the auxiliary carry of a subtraction, by `SUB_AC_READING`. -/
def subAuxCarry (reading : SubAcReading) (a b : Byte) (bin : Bool) : Bool :=
  match reading with
  | .literal => decide (lowNibble a < (b.toNat + bin.toNat) % 16)
  | .nibble => decide (lowNibble a < lowNibble b + bin.toNat)

/-- R37: `set_flags_sub(result, a, b, bin, en)`. -/
def setFlagsSub (reading : SubAcReading) (f result a b : Byte) (bin : Bool) (en : Enables) : Byte :=
  let f := setFlags f result en
  let f := setFlagIf en.cy f .cy (subBorrow a b bin)
  setFlagIf en.ac f .ac (subAuxCarry reading a b bin)

/-- R38: `ana_ac(a, b)`, by `ANA_AC_RULE`. -/
def anaAuxCarry (rule : AnaAcRule) (a b : Byte) : Bool :=
  match rule with
  | .bit2Or => (a ||| b).getLsbD 2
  | .bit3Or => (a ||| b).getLsbD 3
  | .bit2And => (a &&& b).getLsbD 2

/-- R81: the condition column, over the flags cell. -/
def condHolds (cond : Cond) (f : Byte) : Bool :=
  match cond with
  | .nz => !getFlag f .z
  | .z => getFlag f .z
  | .nc => !getFlag f .cy
  | .c => getFlag f .cy
  | .po => !getFlag f .p
  | .pe => getFlag f .p
  | .p => !getFlag f .s
  | .m => getFlag f .s

/-- The bits of the flags cell that are flags (R29); the others are padding (R30). -/
def flagBits : Byte := 0xD5#8

/-- Every flag replaced by the corresponding bit of `v`, the padding bits kept (R149 under `source_literal`). -/
def replaceFlags (f v : Byte) : Byte := (f &&& ~~~flagBits) ||| (v &&& flagBits)

end Sys2Proof.Machine
end

