-- ==== Sys2Proof/Machine/Cycles.lean ====
section
/-! DEFINITION. Cycle counts (spec/70_reset_and_hazards.md R245, R246): `CYCLES(op)`. -/

namespace Sys2Proof

/-- R246: the default `CYCLES` table, form by form (machine cycles). An unimplemented opcode returns no count
(R247); the value here for one is never used. -/
def defaultCycles (op : Byte) : Nat :=
  if op.extractLsb' 6 2 == 0b01#2 then                                      -- MOV
    if op.extractLsb' 0 3 == 0b110#3 || op.extractLsb' 3 3 == 0b110#3 then 2 else 1
  else if op.extractLsb' 6 2 == 0b10#2 then                                 -- ADD to CMP, register and M
    if op.extractLsb' 0 3 == 0b110#3 then 2 else 1
  else if op.extractLsb' 6 2 == 0b11#2 then
    if op.extractLsb' 0 3 == 0b110#3 then 2                                 -- ADI to CPI
    else if op == 0xEB#8 then 1                                             -- XCHG
    else if op == 0xCD#8 then 5                                             -- CALL
    else 3                                                                  -- JMP, J<cond>, RET
  else if op.extractLsb' 0 3 == 0b110#3 then
    if op == 0x36#8 then 3 else 2                                           -- MVI M, MVI r
  else if op.extractLsb' 0 3 == 0b100#3 || op.extractLsb' 0 3 == 0b101#3 then
    if op.extractLsb' 3 3 == 0b110#3 then 3 else 1                          -- INR, DCR
  else if op.extractLsb' 0 4 == 0x1#4 || op.extractLsb' 0 4 == 0x9#4 then 3 -- LXI, DAD
  else if op == 0x3A#8 || op == 0x32#8 then 4                               -- LDA, STA
  else if op == 0x2A#8 || op == 0x22#8 then 5                               -- LHLD, SHLD
  else if op.extractLsb' 0 3 == 0b010#3 then 2                              -- LDAX, STAX
  else 1                                                                    -- INX, DCX, RLC to CMC

/-- The entry of a list of changed counts, if there is one. -/
def findCount (op : Byte) : List (Byte × Nat) → Option Nat
  | [] => none
  | (k, n) :: rest => if k = op then some n else findCount op rest

/-- `CYCLES(op)` of a build. The document fixes it for 0x06 (MVI B) and 0x3A (LDA) whatever the parameter says. -/
def Config.cyclesOf (c : Config) (op : Byte) : Nat :=
  if op = 0x06#8 then 2
  else if op = 0x3A#8 then 4
  else (findCount op c.cycleCounts).getD (defaultCycles op)

end Sys2Proof
end

