-- ==== Sys2Proof/Machine/State.lean ====
section
/-! DEFINITION. The machine's state (spec/10_state.md), its two kinds of stop, and creation (R44, R238). -/

namespace Sys2Proof.Machine

/-- Memory (R40): the cells that are not zero, as (address, byte) pairs. An address that is not listed reads as
0x00, the value of every cell at creation ("zero-initialized at creation", R40). -/
abbrev Memory := List Host.Cell

/-- The canonical form: addresses strictly rising, each below 65536, no cell listed at 0x00, so that equal
memories are equal lists. -/
abbrev Memory.wf (m : Memory) : Prop :=
  m.Pairwise (fun x y => x.1 < y.1) ∧ ∀ x ∈ m, x.1 < 65536 ∧ x.2 ≠ 0

/-- The trap status (R45): set by the trap of R220 and never cleared by a step. -/
inductive TrapStatus where
  | running
  /-- the address of the unimplemented opcode, and the opcode -/
  | trapped (pc0 : Word) (op : Byte)
deriving DecidableEq, Repr

/-- The whole state: the register file (R20), the flags cell (R29), memory (R40), the trap status (R45); the
returned cycle count (R70); the parameters of the build (R8); and the model's own counter of free values. -/
structure State where
  a : Byte
  b : Byte
  c : Byte
  d : Byte
  e : Byte
  h : Byte
  l : Byte
  /-- the flags cell: S Z - AC - P - CY from bit 7 down (R29) -/
  f : Byte
  pc : Word
  sp : Word
  mem : Memory
  trap : TrapStatus
  /-- what the last step returned (R70, R245), none if it trapped (R247) or no step has run (log 5) -/
  cycles : Option Nat
  /-- the parameters (R8), fixed for the machine's lifetime (log 2) -/
  config : Config
  /-- how many free values have been used (log 10); not the spec's -/
  free : Nat
deriving DecidableEq, Repr

/-- Why a step stops the machine. -/
inductive Fault where
  /-- `step` on a machine whose trap status is `trapped(pc0, op)`: "a machine whose status is `trapped` takes no
  further step" (R45, R220, R224). Raised by `step` alone, never by an instruction. Safe: the process has
  terminated. -/
  | terminated (pc0 : Word) (op : Byte)
deriving DecidableEq, Repr

/-- Why a step has no meaning. -/
inductive Refusal where
  /-- an instruction whose meaning is not written; raised by `exec`'s arm alone, and by no arm of this model. Safe. -/
  | notModelled (mnemonic : String)
deriving DecidableEq, Repr

/-- What a meaning answers. -/
abbrev StepResult := Host.Outcome State Fault Refusal

/-- Creation of a machine (R44, R238): memory all zero, `pc` 0x0000, `running`, every other register and flag bit
from the launch input. -/
def State.create (r : ResetRegs) (cfg : Config) : State where
  a := r.a
  b := r.b
  c := r.c
  d := r.d
  e := r.e
  h := r.h
  l := r.l
  f := r.f
  pc := 0x0000
  sp := r.sp
  mem := []
  trap := .running
  cycles := none
  config := cfg
  free := 0

/-- The machine after reset: creation with the register values that log 1 names and the parameters' defaults. -/
def State.reset : State := State.create resetRegs defaultConfig

end Sys2Proof.Machine
end

