-- ==== Sys2Proof/Machine/Ops.lean ====
section
/-! DEFINITION. The shared operations over memory, the program counter and the stack, taking the trap, and completing an
instruction (spec/00_scope.md R11, spec/20_memory.md, spec/60_exceptions.md R220 to R223). -/

namespace Sys2Proof.Machine

/-! ### The memory list -/

/-- The byte at an address; 0x00 where none is listed. -/
def Memory.read : Memory → Nat → Byte
  | [], _ => 0
  | (k, v) :: rest, a => if k = a then v else Memory.read rest a

/-- The list without any entry at `a`. -/
def Memory.unlist : Memory → Nat → Memory
  | [], _ => []
  | (k, v) :: rest, a => if k = a then Memory.unlist rest a else (k, v) :: Memory.unlist rest a

/-- The list with an entry at `a`, placed before the first larger address. -/
def Memory.enlist : Memory → Nat → Byte → Memory
  | [], a, v => [(a, v)]
  | (k, w) :: rest, a, v => if a < k then (a, v) :: (k, w) :: rest else (k, w) :: Memory.enlist rest a v

/-- Overwrites the byte at an address. Writing 0x00 leaves no entry, so the canonical form is kept. -/
def Memory.write (m : Memory) (a : Nat) (v : Byte) : Memory :=
  if v = 0 then m.unlist a else (m.unlist a).enlist a v

/-! ### The memory data path (R50 to R54) -/

/-- R51: `read(address)`. Always succeeds, no side effect. -/
def State.readByte (s : State) (addr : Word) : Byte := s.mem.read addr.toNat

/-- R50: `write(address, value)`. Always succeeds, changes one cell. -/
def State.writeByte (s : State) (addr : Word) (v : Byte) : State :=
  { s with mem := s.mem.write addr.toNat v }

/-- R52: `read16(address)`, little-endian; `address + 1` wraps. -/
def State.read16 (s : State) (addr : Word) : Word := joinBytes (s.readByte (addr + 1)) (s.readByte addr)

/-- R53, R11: a 16-bit store is two byte writes, the low byte first and at the lower address. -/
def State.write16 (s : State) (addr : Word) (v : Word) : State :=
  (s.writeByte addr (loByte v)).writeByte (addr + 1) (hiByte v)

/-! ### The program counter and the stack pointer -/

/-- `pc <- target` (R10). -/
def State.setPc (s : State) (v : Word) : State := { s with pc := v }

/-- R26, R27: `pc` moves past `n` bytes, modulo 65536. -/
def State.advancePc (s : State) (n : Nat) : State := s.setPc (s.pc + BitVec.ofNat 16 n)

/-- `SP <- v` (R10, R28). -/
def State.setSp (s : State) (v : Word) : State := { s with sp := v }

/-- R209: one push: SP goes down by one, modulo 65536, and the byte is written there. -/
def State.pushByte (s : State) (v : Byte) : State := (s.setSp (s.sp - 1)).writeByte (s.sp - 1) v

/-! ### Completing an instruction, and the trap -/

/-- R70: the step returns a cycle count. -/
def State.returnCycles (s : State) (n : Nat) : State := { s with cycles := some n }

/-- R70, R71, R26: the course of every implemented instruction. The opcode and the immediates have been read, so
`pc` is past the instruction when its effect runs (R13: before any other write); then the count is returned. The
state given is the one before the step, with `pc` at the opcode (log 18). -/
def completes (i : Instr) (effect : State → State) (s : State) : StepResult :=
  .next ((effect (s.advancePc i.length)).returnCycles (s.config.cyclesOf i.opcode))

/-- R220, R221, R247: THE TRAP, the one exception. `pc` has advanced past the opcode, the status becomes
`trapped(pc0, op)`, no count is returned; nothing else changes (R223). There is no return from it (R224). -/
def State.takeTrap (s : State) (op : Byte) : State :=
  { s.advancePc 1 with trap := .trapped s.pc op, cycles := none }

/-- R222: what the trap reports, the program-counter value by `TRAP_PC_REPORT` and the opcode. -/
def State.trapReport (s : State) : Option (Word × Byte) :=
  match s.trap with
  | .running => none
  | .trapped pc0 op =>
    match s.config.trapPc with
    | .opcodeAddress => some (pc0, op)
    | .advanced => some (pc0 + 1, op)

/-! ### Free values -/

/-- The next free byte (log 10): nothing constrains it. -/
def State.nextFree (s : State) : Byte := Config.freeByte s.free

/-- A free value has been used. -/
def State.useFree (s : State) : State := { s with free := s.free + 1 }

/-! ### Fetching (R70, R84) -/

/-- The instruction at `pc`: the opcode byte and the immediates after it, at the next addresses modulo 65536. Bytes past
the instruction's length are not used (R58, R221: reading has no side effect, R51). -/
def State.fetch (s : State) : Instr :=
  decodeInstr s.config (s.readByte s.pc) (s.readByte (s.pc + 1)) (s.readByte (s.pc + 2))

/-- The `n` bytes from `addr` on, modulo 65536 (R75). -/
def State.bytesAt (s : State) (addr : Word) : Nat → List Byte
  | 0 => []
  | n + 1 => s.readByte addr :: State.bytesAt s (addr + 1) n

/-- The three bytes of a table word, where the next fetch reads them. -/
def State.placeWord (s : State) (nbits w : Nat) : State :=
  ((s.writeByte s.pc (tableByte nbits w 0)).writeByte (s.pc + 1) (tableByte nbits w 1)).writeByte
    (s.pc + 2) (tableByte nbits w 2)

end Sys2Proof.Machine
end

