-- ==== Sys2Proof/Machine/Operands.lean ====
section
/-! DEFINITION. The operand forms (spec/00_scope.md R10, spec/30_encoding.md R79, R80, R85): registers, pairs, M, the
second operand of an ALU instruction; and reading and writing flags in the state. -/

namespace Sys2Proof

/-- The pair that LDAX or STAX takes as its address (R85). -/
def IndirectPair.toPair : IndirectPair → Pair
  | .bc => .bc
  | .de => .de

namespace Machine

/-- R10: `reg[r]`. -/
def State.readReg (s : State) : Reg → Byte
  | .b => s.b
  | .c => s.c
  | .d => s.d
  | .e => s.e
  | .h => s.h
  | .l => s.l
  | .a => s.a

/-- R10: `reg[r] <- v`. -/
def State.writeReg (s : State) (r : Reg) (v : Byte) : State :=
  match r with
  | .b => { s with b := v }
  | .c => { s with c := v }
  | .d => { s with d := v }
  | .e => { s with e := v }
  | .h => { s with h := v }
  | .l => { s with l := v }
  | .a => { s with a := v }

/-- R10, R24, R25, R80: `pair[p]`; BC, DE, HL are views of two registers. -/
def State.readPair (s : State) : Pair → Word
  | .bc => joinBytes s.b s.c
  | .de => joinBytes s.d s.e
  | .hl => joinBytes s.h s.l
  | .sp => s.sp

/-- R10, R24, R25: `pair[p] <- v`; the high register takes bits 15:8 and the low register bits 7:0. -/
def State.writePair (s : State) (p : Pair) (v : Word) : State :=
  match p with
  | .bc => { s with b := hiByte v, c := loByte v }
  | .de => { s with d := hiByte v, e := loByte v }
  | .hl => { s with h := hiByte v, l := loByte v }
  | .sp => { s with sp := v }

/-- The registers of a pair (R23); SP "is not a pair" (R15). -/
def pairRegs : Pair → List Reg
  | .bc => [.b, .c]
  | .de => [.d, .e]
  | .hl => [.h, .l]
  | .sp => []

/-- HL, the address of M (R79). -/
def State.hl (s : State) : Word := s.readPair .hl

/-- R79: an operand read; M is `MemRead(HL, 1)`. -/
def State.readOperand (s : State) : Operand → Byte
  | .reg r => s.readReg r
  | .m => s.readByte s.hl

/-- R79: an operand written; M is `MemWrite(HL, 1, v)`. -/
def State.writeOperand (s : State) (x : Operand) (v : Byte) : State :=
  match x with
  | .reg r => s.writeReg r v
  | .m => s.writeByte s.hl v

/-- R85: the second operand of an ALU instruction. -/
def State.readSource (s : State) : Source → Byte
  | .reg r => s.readReg r
  | .m => s.readByte s.hl
  | .imm data => data

/-- R31: a flag of the state. -/
def State.flag (s : State) (x : Flag) : Bool := getFlag s.f x

/-- The flags cell written. -/
def State.setF (s : State) (f : Byte) : State := { s with f := f }

/-- R31: one flag written. -/
def State.setFlag (s : State) (x : Flag) (v : Bool) : State := s.setF (Machine.setFlag s.f x v)

/-- A and the flags cell written together. -/
def State.setAF (s : State) (a f : Byte) : State := { s with a := a, f := f }

end Machine

end Sys2Proof
end

