-- ==== Sys2Proof/Machine/Arithmetic.lean ====
section
/-! DEFINITION. Arithmetic (spec/41_arithmetic.md R130 to R149), and the logical and compare operations of the same ALU
field (spec/42_logical.md R160 to R171; their meanings stand in Logical.lean). Flags are computed from the operand
values read before the destination is written. -/

namespace Sys2Proof.Machine

/-! ### Operations on A -/

/-- R130 to R135: `A + b + cin` into A, all five flags. -/
def addToA (b : Byte) (cin : Bool) (s : State) : State :=
  let r := add8 s.a b cin
  s.setAF r (setFlagsAdd s.f r s.a b cin .all)

/-- R136 to R141, R169 to R171: the flags cell after `A - b - bin`. -/
def subFlags (b : Byte) (bin : Bool) (s : State) : Byte :=
  setFlagsSub s.config.subAc s.f (sub8 s.a b bin) s.a b bin .all

/-- R136 to R141: `A - b - bin` into A, all five flags. -/
def subFromA (b : Byte) (bin : Bool) (s : State) : State := s.setAF (sub8 s.a b bin) (subFlags b bin s)

/-- R169 to R171: the flags of `A - b`; A is not written. -/
def compareA (b : Byte) (s : State) : State := s.setF (subFlags b false s)

/-- R160 to R168: a logical result into A: Z, S, P from it, CY cleared, AC as given. -/
def logicalToA (r : Byte) (ac : Bool) (s : State) : State :=
  s.setAF r (setFlag (setFlag (setFlags s.f r .zsp) .cy false) .ac ac)

/-- R82: the ALU operation on A and a second operand. -/
def accumulate (op : AluOp) (b : Byte) (s : State) : State :=
  match op with
  | .add => addToA b false s
  | .adc => addToA b (s.flag .cy) s
  | .sub => subFromA b false s
  | .sbb => subFromA b (s.flag .cy) s
  | .ana => logicalToA (s.a &&& b) (anaAuxCarry s.config.anaAc s.a b) s
  | .xra => logicalToA (s.a ^^^ b) false s
  | .ora => logicalToA (s.a ||| b) false s
  | .cmp => compareA b s

/-- An ALU instruction: the operation on A and the operand read (R85). -/
def aluEffect (op : AluOp) (x : Source) (s : State) : State := accumulate op (s.readSource x) s

/-! ### Increment and decrement -/

/-- R142, R143: the operand plus 1; Z, S, P, AC by the addition helper, CY kept. -/
def increment (x : Operand) (s : State) : State :=
  let v := s.readOperand x
  let r := add8 v 1 false
  (s.writeOperand x r).setF (setFlagsAdd s.f r v 1 false .zspa)

/-- R144, R145: the operand minus 1; Z, S, P, AC by the subtraction helper, CY kept. -/
def decrement (x : Operand) (s : State) : State :=
  let v := s.readOperand x
  let r := sub8 v 1 false
  (s.writeOperand x r).setF (setFlagsSub s.config.subAc s.f r v 1 false .zspa)

/-- R146: `pair[pp] <- (pair[pp] + 1) mod 65536`. -/
def incrementPair (p : Pair) (s : State) : State := s.writePair p (s.readPair p + 1)

/-- R147: `pair[pp] <- (pair[pp] - 1) mod 65536`. -/
def decrementPair (p : Pair) (s : State) : State := s.writePair p (s.readPair p - 1)

/-! ### Sixteen-bit add and decimal adjust -/

/-- R148: HL plus a pair into HL; CY is the overflow past 0xFFFF, no other flag. -/
def addPair (p : Pair) (s : State) : State :=
  let sum := s.hl.toNat + (s.readPair p).toNat
  (s.writePair .hl (BitVec.ofNat 16 sum)).setFlag .cy (decide (sum > 0xFFFF))

/-- R149: the low correction applies. -/
def daaLow (s : State) : Bool := decide (lowNibble s.a > 9) || s.flag .ac

/-- R149: the high correction applies. -/
def daaHigh (s : State) : Bool := decide (s.a.toNat > 0x99) || s.flag .cy

/-- R149: `corr`. -/
def daaCorrection (s : State) : Byte :=
  (if daaLow s then 0x06#8 else 0x00#8) ||| (if daaHigh s then 0x60#8 else 0x00#8)

/-- R149, `DAA_MODE = reference`: A plus the correction; Z, S, P, AC by the addition helper; CY is 1 if the high
correction applied, else the prior CY, which is then 0. -/
def decimalAdjustReference (s : State) : State :=
  let corr := daaCorrection s
  let r := add8 s.a corr false
  s.setAF r (setFlag (setFlagsAdd s.f r s.a corr false .zspa) .cy
    (daaHigh s || s.flag .cy))

/-- R149, `DAA_MODE = source_literal`: A takes the correction byte; the five flags take any value (log 8, 10). -/
def decimalAdjustSource (s : State) : State :=
  (s.setAF (daaCorrection s) (replaceFlags s.f s.nextFree)).useFree

/-- R149, by `DAA_MODE`. -/
def decimalAdjust (s : State) : State :=
  match s.config.daa with
  | .reference => decimalAdjustReference s
  | .sourceLiteral => decimalAdjustSource s

/-! ### The meanings -/

/-! ADD r, ADD M, ADI (R130 to R132) -/

/-- ADD B (R130) -/
def execAddB (s : State) : StepResult := completes .addB (aluEffect .add (.reg .b)) s
/-- ADD C (R130) -/
def execAddC (s : State) : StepResult := completes .addC (aluEffect .add (.reg .c)) s
/-- ADD D (R130) -/
def execAddD (s : State) : StepResult := completes .addD (aluEffect .add (.reg .d)) s
/-- ADD E (R130) -/
def execAddE (s : State) : StepResult := completes .addE (aluEffect .add (.reg .e)) s
/-- ADD H (R130) -/
def execAddH (s : State) : StepResult := completes .addH (aluEffect .add (.reg .h)) s
/-- ADD L (R130) -/
def execAddL (s : State) : StepResult := completes .addL (aluEffect .add (.reg .l)) s
/-- ADD M (R131) -/
def execAddM (s : State) : StepResult := completes .addM (aluEffect .add .m) s
/-- ADD A (R130) -/
def execAddA (s : State) : StepResult := completes .addA (aluEffect .add (.reg .a)) s
/-- ADI data (R132) -/
def execAdi (data : Byte) (s : State) : StepResult := completes (.adi data) (aluEffect .add (.imm data)) s

/-! ADC r, ADC M, ACI (R133 to R135) -/

/-- ADC B (R133) -/
def execAdcB (s : State) : StepResult := completes .adcB (aluEffect .adc (.reg .b)) s
/-- ADC C (R133) -/
def execAdcC (s : State) : StepResult := completes .adcC (aluEffect .adc (.reg .c)) s
/-- ADC D (R133) -/
def execAdcD (s : State) : StepResult := completes .adcD (aluEffect .adc (.reg .d)) s
/-- ADC E (R133) -/
def execAdcE (s : State) : StepResult := completes .adcE (aluEffect .adc (.reg .e)) s
/-- ADC H (R133) -/
def execAdcH (s : State) : StepResult := completes .adcH (aluEffect .adc (.reg .h)) s
/-- ADC L (R133) -/
def execAdcL (s : State) : StepResult := completes .adcL (aluEffect .adc (.reg .l)) s
/-- ADC M (R134) -/
def execAdcM (s : State) : StepResult := completes .adcM (aluEffect .adc .m) s
/-- ADC A (R133) -/
def execAdcA (s : State) : StepResult := completes .adcA (aluEffect .adc (.reg .a)) s
/-- ACI data (R135) -/
def execAci (data : Byte) (s : State) : StepResult := completes (.aci data) (aluEffect .adc (.imm data)) s

/-! SUB r, SUB M, SUI (R136 to R138) -/

/-- SUB B (R136) -/
def execSubB (s : State) : StepResult := completes .subB (aluEffect .sub (.reg .b)) s
/-- SUB C (R136) -/
def execSubC (s : State) : StepResult := completes .subC (aluEffect .sub (.reg .c)) s
/-- SUB D (R136) -/
def execSubD (s : State) : StepResult := completes .subD (aluEffect .sub (.reg .d)) s
/-- SUB E (R136) -/
def execSubE (s : State) : StepResult := completes .subE (aluEffect .sub (.reg .e)) s
/-- SUB H (R136) -/
def execSubH (s : State) : StepResult := completes .subH (aluEffect .sub (.reg .h)) s
/-- SUB L (R136) -/
def execSubL (s : State) : StepResult := completes .subL (aluEffect .sub (.reg .l)) s
/-- SUB M (R137) -/
def execSubM (s : State) : StepResult := completes .subM (aluEffect .sub .m) s
/-- SUB A (R136) -/
def execSubA (s : State) : StepResult := completes .subA (aluEffect .sub (.reg .a)) s
/-- SUI data (R138) -/
def execSui (data : Byte) (s : State) : StepResult := completes (.sui data) (aluEffect .sub (.imm data)) s

/-! SBB r, SBB M, SBI (R139 to R141) -/

/-- SBB B (R139) -/
def execSbbB (s : State) : StepResult := completes .sbbB (aluEffect .sbb (.reg .b)) s
/-- SBB C (R139) -/
def execSbbC (s : State) : StepResult := completes .sbbC (aluEffect .sbb (.reg .c)) s
/-- SBB D (R139) -/
def execSbbD (s : State) : StepResult := completes .sbbD (aluEffect .sbb (.reg .d)) s
/-- SBB E (R139) -/
def execSbbE (s : State) : StepResult := completes .sbbE (aluEffect .sbb (.reg .e)) s
/-- SBB H (R139) -/
def execSbbH (s : State) : StepResult := completes .sbbH (aluEffect .sbb (.reg .h)) s
/-- SBB L (R139) -/
def execSbbL (s : State) : StepResult := completes .sbbL (aluEffect .sbb (.reg .l)) s
/-- SBB M (R140) -/
def execSbbM (s : State) : StepResult := completes .sbbM (aluEffect .sbb .m) s
/-- SBB A (R139) -/
def execSbbA (s : State) : StepResult := completes .sbbA (aluEffect .sbb (.reg .a)) s
/-- SBI data (R141) -/
def execSbi (data : Byte) (s : State) : StepResult := completes (.sbi data) (aluEffect .sbb (.imm data)) s

/-! INR r (R142), INR M (R143) -/

/-- INR B (R142) -/
def execInrB (s : State) : StepResult := completes .inrB (increment (.reg .b)) s
/-- INR C (R142) -/
def execInrC (s : State) : StepResult := completes .inrC (increment (.reg .c)) s
/-- INR D (R142) -/
def execInrD (s : State) : StepResult := completes .inrD (increment (.reg .d)) s
/-- INR E (R142) -/
def execInrE (s : State) : StepResult := completes .inrE (increment (.reg .e)) s
/-- INR H (R142) -/
def execInrH (s : State) : StepResult := completes .inrH (increment (.reg .h)) s
/-- INR L (R142) -/
def execInrL (s : State) : StepResult := completes .inrL (increment (.reg .l)) s
/-- INR M (R143) -/
def execInrM (s : State) : StepResult := completes .inrM (increment .m) s
/-- INR A (R142) -/
def execInrA (s : State) : StepResult := completes .inrA (increment (.reg .a)) s

/-! DCR r (R144), DCR M (R145) -/

/-- DCR B (R144) -/
def execDcrB (s : State) : StepResult := completes .dcrB (decrement (.reg .b)) s
/-- DCR C (R144) -/
def execDcrC (s : State) : StepResult := completes .dcrC (decrement (.reg .c)) s
/-- DCR D (R144) -/
def execDcrD (s : State) : StepResult := completes .dcrD (decrement (.reg .d)) s
/-- DCR E (R144) -/
def execDcrE (s : State) : StepResult := completes .dcrE (decrement (.reg .e)) s
/-- DCR H (R144) -/
def execDcrH (s : State) : StepResult := completes .dcrH (decrement (.reg .h)) s
/-- DCR L (R144) -/
def execDcrL (s : State) : StepResult := completes .dcrL (decrement (.reg .l)) s
/-- DCR M (R145) -/
def execDcrM (s : State) : StepResult := completes .dcrM (decrement .m) s
/-- DCR A (R144) -/
def execDcrA (s : State) : StepResult := completes .dcrA (decrement (.reg .a)) s

/-! INX (R146) -/

/-- INX B (R146) -/
def execInxB (s : State) : StepResult := completes .inxB (incrementPair .bc) s
/-- INX D (R146) -/
def execInxD (s : State) : StepResult := completes .inxD (incrementPair .de) s
/-- INX H (R146) -/
def execInxH (s : State) : StepResult := completes .inxH (incrementPair .hl) s
/-- INX SP (R146) -/
def execInxSP (s : State) : StepResult := completes .inxSP (incrementPair .sp) s

/-! DCX (R147) -/

/-- DCX B (R147) -/
def execDcxB (s : State) : StepResult := completes .dcxB (decrementPair .bc) s
/-- DCX D (R147) -/
def execDcxD (s : State) : StepResult := completes .dcxD (decrementPair .de) s
/-- DCX H (R147) -/
def execDcxH (s : State) : StepResult := completes .dcxH (decrementPair .hl) s
/-- DCX SP (R147) -/
def execDcxSP (s : State) : StepResult := completes .dcxSP (decrementPair .sp) s

/-! DAD (R148) -/

/-- DAD B (R148) -/
def execDadB (s : State) : StepResult := completes .dadB (addPair .bc) s
/-- DAD D (R148) -/
def execDadD (s : State) : StepResult := completes .dadD (addPair .de) s
/-- DAD H (R148) -/
def execDadH (s : State) : StepResult := completes .dadH (addPair .hl) s
/-- DAD SP (R148) -/
def execDadSP (s : State) : StepResult := completes .dadSP (addPair .sp) s

/-! DAA (R149) -/

/-- DAA (R149) -/
def execDaa (s : State) : StepResult := completes .daa decimalAdjust s

end Sys2Proof.Machine
end

