-- ==== Sys2Proof/Machine/Control.lean ====
section
/-! DEFINITION. Control transfer (spec/43_control.md R199 to R210) and the unimplemented opcodes (spec/30_encoding.md R87).
No instruction of this file writes a flag. -/

namespace Sys2Proof.Machine

/-- R200: `pc <- t`. -/
def jump (addr : Word) (s : State) : State := s.setPc addr

/-- R201 to R208: `pc <- t` if the condition holds; otherwise `pc` stays past the instruction. -/
def jumpIf (cond : Cond) (addr : Word) (s : State) : State := if condHolds cond s.f then s.setPc addr else s

/-- R209: the return address is `pc`, past the CALL; its high byte goes to SP - 1, then its low byte to SP - 2. -/
def callSubroutine (addr : Word) (s : State) : State :=
  ((s.pushByte (hiByte s.pc)).pushByte (loByte s.pc)).setPc addr

/-- R210: `t <- MemRead(SP, 2); SP <- SP + 2; pc <- t`. -/
def returnFromSubroutine (s : State) : State := (s.setSp (s.sp + 2)).setPc (s.read16 s.sp)

/-! JMP (R200), the conditional jumps (R201 to R208) -/

/-- JNZ addr (R201) -/
def execJnz (addr : Word) (s : State) : StepResult := completes (.jnz addr) (jumpIf .nz addr) s
/-- JMP addr (R200) -/
def execJmp (addr : Word) (s : State) : StepResult := completes (.jmp addr) (jump addr) s
/-- JZ addr (R202) -/
def execJz (addr : Word) (s : State) : StepResult := completes (.jz addr) (jumpIf .z addr) s
/-- JNC addr (R203) -/
def execJnc (addr : Word) (s : State) : StepResult := completes (.jnc addr) (jumpIf .nc addr) s
/-- JC addr (R204) -/
def execJc (addr : Word) (s : State) : StepResult := completes (.jc addr) (jumpIf .c addr) s
/-- JPO addr (R205) -/
def execJpo (addr : Word) (s : State) : StepResult := completes (.jpo addr) (jumpIf .po addr) s
/-- JPE addr (R206) -/
def execJpe (addr : Word) (s : State) : StepResult := completes (.jpe addr) (jumpIf .pe addr) s
/-- JP addr (R207) -/
def execJp (addr : Word) (s : State) : StepResult := completes (.jp addr) (jumpIf .p addr) s
/-- JM addr (R208) -/
def execJm (addr : Word) (s : State) : StepResult := completes (.jm addr) (jumpIf .m addr) s

/-! CALL (R209), RET (R210) -/

/-- RET (R210) -/
def execRet (s : State) : StepResult := completes .ret returnFromSubroutine s
/-- CALL addr (R209) -/
def execCall (addr : Word) (s : State) : StepResult := completes (.call addr) (callSubroutine addr) s
/-! The unimplemented opcodes (R87) -/

/-- UNIMPLEMENTED (R87, R220): the step ends in the trap. -/
def execUnimplemented (op : Byte) (s : State) : StepResult := .next (s.takeTrap op)

end Sys2Proof.Machine
end

