-- ==== Sys2Proof/Machine/Logical.lean ====
section
/-! DEFINITION. Logical, compare, rotate and carry instructions (spec/42_logical.md R160 to R178). The ALU operations
themselves are `accumulate` in Arithmetic.lean. -/

namespace Sys2Proof.Machine

/-- A bit as the lowest bit of a byte. -/
def bitByte (x : Bool) : Byte := BitVec.ofNat 8 x.toNat

/-- A written, and CY (R172 to R175): no other flag. -/
def rotated (a : Byte) (cy : Bool) (s : State) : State := (s.writeReg .a a).setFlag .cy cy

/-- R172: `c <- A[7]; A <- (A << 1) | c; CY <- c`. -/
def rotateLeft (s : State) : State :=
  rotated ((s.a <<< 1) ||| bitByte (s.a.getLsbD 7)) (s.a.getLsbD 7) s

/-- R173: `c <- A[0]; A <- (A >> 1) | (c << 7); CY <- c`. -/
def rotateRight (s : State) : State :=
  rotated ((s.a >>> 1) ||| (bitByte (s.a.getLsbD 0) <<< 7)) (s.a.getLsbD 0) s

/-- R174: `c <- A[7]; A <- (A << 1) | CY; CY <- c`. -/
def rotateLeftThroughCarry (s : State) : State :=
  rotated ((s.a <<< 1) ||| bitByte (s.flag .cy)) (s.a.getLsbD 7) s

/-- R175: `c <- A[0]; A <- (A >> 1) | (CY << 7); CY <- c`. -/
def rotateRightThroughCarry (s : State) : State :=
  rotated ((s.a >>> 1) ||| (bitByte (s.flag .cy) <<< 7)) (s.a.getLsbD 0) s

/-- R176: `A <- ~A`; no flag. -/
def complementA (s : State) : State := s.writeReg .a (~~~s.a)

/-- R177: `CY <- 1 - CY`, the toggle accessor of R31. -/
def complementCarry (s : State) : State := s.setF (toggleFlag s.f .cy)

/-- R178: `CY <- 1`. -/
def setCarry (s : State) : State := s.setFlag .cy true

/-! ANA r, ANA M, ANI (R160 to R162) -/

/-- ANA B (R160) -/
def execAnaB (s : State) : StepResult := completes .anaB (aluEffect .ana (.reg .b)) s
/-- ANA C (R160) -/
def execAnaC (s : State) : StepResult := completes .anaC (aluEffect .ana (.reg .c)) s
/-- ANA D (R160) -/
def execAnaD (s : State) : StepResult := completes .anaD (aluEffect .ana (.reg .d)) s
/-- ANA E (R160) -/
def execAnaE (s : State) : StepResult := completes .anaE (aluEffect .ana (.reg .e)) s
/-- ANA H (R160) -/
def execAnaH (s : State) : StepResult := completes .anaH (aluEffect .ana (.reg .h)) s
/-- ANA L (R160) -/
def execAnaL (s : State) : StepResult := completes .anaL (aluEffect .ana (.reg .l)) s
/-- ANA M (R161) -/
def execAnaM (s : State) : StepResult := completes .anaM (aluEffect .ana .m) s
/-- ANA A (R160) -/
def execAnaA (s : State) : StepResult := completes .anaA (aluEffect .ana (.reg .a)) s
/-- ANI data (R162) -/
def execAni (data : Byte) (s : State) : StepResult := completes (.ani data) (aluEffect .ana (.imm data)) s

/-! XRA r, XRA M, XRI (R163 to R165) -/

/-- XRA B (R163) -/
def execXraB (s : State) : StepResult := completes .xraB (aluEffect .xra (.reg .b)) s
/-- XRA C (R163) -/
def execXraC (s : State) : StepResult := completes .xraC (aluEffect .xra (.reg .c)) s
/-- XRA D (R163) -/
def execXraD (s : State) : StepResult := completes .xraD (aluEffect .xra (.reg .d)) s
/-- XRA E (R163) -/
def execXraE (s : State) : StepResult := completes .xraE (aluEffect .xra (.reg .e)) s
/-- XRA H (R163) -/
def execXraH (s : State) : StepResult := completes .xraH (aluEffect .xra (.reg .h)) s
/-- XRA L (R163) -/
def execXraL (s : State) : StepResult := completes .xraL (aluEffect .xra (.reg .l)) s
/-- XRA M (R164) -/
def execXraM (s : State) : StepResult := completes .xraM (aluEffect .xra .m) s
/-- XRA A (R163) -/
def execXraA (s : State) : StepResult := completes .xraA (aluEffect .xra (.reg .a)) s
/-- XRI data (R165) -/
def execXri (data : Byte) (s : State) : StepResult := completes (.xri data) (aluEffect .xra (.imm data)) s

/-! ORA r, ORA M, ORI (R166 to R168) -/

/-- ORA B (R166) -/
def execOraB (s : State) : StepResult := completes .oraB (aluEffect .ora (.reg .b)) s
/-- ORA C (R166) -/
def execOraC (s : State) : StepResult := completes .oraC (aluEffect .ora (.reg .c)) s
/-- ORA D (R166) -/
def execOraD (s : State) : StepResult := completes .oraD (aluEffect .ora (.reg .d)) s
/-- ORA E (R166) -/
def execOraE (s : State) : StepResult := completes .oraE (aluEffect .ora (.reg .e)) s
/-- ORA H (R166) -/
def execOraH (s : State) : StepResult := completes .oraH (aluEffect .ora (.reg .h)) s
/-- ORA L (R166) -/
def execOraL (s : State) : StepResult := completes .oraL (aluEffect .ora (.reg .l)) s
/-- ORA M (R167) -/
def execOraM (s : State) : StepResult := completes .oraM (aluEffect .ora .m) s
/-- ORA A (R166) -/
def execOraA (s : State) : StepResult := completes .oraA (aluEffect .ora (.reg .a)) s
/-- ORI data (R168) -/
def execOri (data : Byte) (s : State) : StepResult := completes (.ori data) (aluEffect .ora (.imm data)) s

/-! CMP r, CMP M, CPI (R169 to R171) -/

/-- CMP B (R169) -/
def execCmpB (s : State) : StepResult := completes .cmpB (aluEffect .cmp (.reg .b)) s
/-- CMP C (R169) -/
def execCmpC (s : State) : StepResult := completes .cmpC (aluEffect .cmp (.reg .c)) s
/-- CMP D (R169) -/
def execCmpD (s : State) : StepResult := completes .cmpD (aluEffect .cmp (.reg .d)) s
/-- CMP E (R169) -/
def execCmpE (s : State) : StepResult := completes .cmpE (aluEffect .cmp (.reg .e)) s
/-- CMP H (R169) -/
def execCmpH (s : State) : StepResult := completes .cmpH (aluEffect .cmp (.reg .h)) s
/-- CMP L (R169) -/
def execCmpL (s : State) : StepResult := completes .cmpL (aluEffect .cmp (.reg .l)) s
/-- CMP M (R170) -/
def execCmpM (s : State) : StepResult := completes .cmpM (aluEffect .cmp .m) s
/-- CMP A (R169) -/
def execCmpA (s : State) : StepResult := completes .cmpA (aluEffect .cmp (.reg .a)) s
/-- CPI data (R171) -/
def execCpi (data : Byte) (s : State) : StepResult := completes (.cpi data) (aluEffect .cmp (.imm data)) s

/-! RLC (R172), RRC (R173), RAL (R174), RAR (R175) -/

/-- RLC (R172) -/
def execRlc (s : State) : StepResult := completes .rlc rotateLeft s
/-- RRC (R173) -/
def execRrc (s : State) : StepResult := completes .rrc rotateRight s
/-- RAL (R174) -/
def execRal (s : State) : StepResult := completes .ral rotateLeftThroughCarry s
/-- RAR (R175) -/
def execRar (s : State) : StepResult := completes .rar rotateRightThroughCarry s

/-! CMA (R176), CMC (R177), STC (R178) -/

/-- CMA (R176) -/
def execCma (s : State) : StepResult := completes .cma complementA s
/-- STC (R178) -/
def execStc (s : State) : StepResult := completes .stc setCarry s
/-- CMC (R177) -/
def execCmc (s : State) : StepResult := completes .cmc complementCarry s

end Sys2Proof.Machine
end

