-- ==== Sys2Proof/Machine/Transfer.lean ====
section
/-! DEFINITION. Data transfer (spec/40_data_transfer.md R100 to R112). No instruction of this file writes a flag. The
effects come first, then one meaning for each constructor. An effect runs with `pc` past the instruction. -/

namespace Sys2Proof.Machine

/-- R100: `reg[ddd] <- reg[sss]`. -/
def moveReg (dst src : Reg) (s : State) : State := s.writeReg dst (s.readReg src)

/-- R101: `reg[ddd] <- MemRead(HL, 1)`; the address is HL before the write. -/
def loadFromM (dst : Reg) (s : State) : State := s.writeReg dst (s.readByte s.hl)

/-- R102: `MemWrite(HL, 1, reg[sss])`. -/
def storeToM (src : Reg) (s : State) : State := s.writeByte s.hl (s.readReg src)

/-- R103, R104: the immediate to a register, or to the memory byte at HL. -/
def loadImmediate (dst : Operand) (data : Byte) (s : State) : State := s.writeOperand dst data

/-- R105: `pair[pp] <- imm16()`. -/
def loadPair (p : Pair) (data : Word) (s : State) : State := s.writePair p data

/-- R106: `A <- MemRead(a, 1)`. -/
def loadDirect (addr : Word) (s : State) : State := s.writeReg .a (s.readByte addr)

/-- R107: `MemWrite(a, 1, A)`. -/
def storeDirect (addr : Word) (s : State) : State := s.writeByte addr s.a

/-- R108: `A <- MemRead(pair[pp], 1)`. -/
def loadIndirect (p : IndirectPair) (s : State) : State := s.writeReg .a (s.readByte (s.readPair p.toPair))

/-- R109: `MemWrite(pair[pp], 1, A)`. -/
def storeIndirect (p : IndirectPair) (s : State) : State := s.writeByte (s.readPair p.toPair) s.a

/-- R110: `HL <- MemRead(a, 2)`: L from `a`, H from `a + 1` modulo 65536. -/
def loadHL (addr : Word) (s : State) : State := s.writePair .hl (s.read16 addr)

/-- R111: `MemWrite(a, 2, HL)`: L to `a`, H to `a + 1` modulo 65536. -/
def storeHL (addr : Word) (s : State) : State := s.write16 addr s.hl

/-- R112: `t <- HL; HL <- DE; DE <- t`. -/
def exchange (s : State) : State := (s.writePair .hl (s.readPair .de)).writePair .de s.hl

/-! MOV r1,r2 (R100) -/

/-- MOV B B (R100) -/
def execMovBB (s : State) : StepResult := completes .movBB (moveReg .b .b) s
/-- MOV B C (R100) -/
def execMovBC (s : State) : StepResult := completes .movBC (moveReg .b .c) s
/-- MOV B D (R100) -/
def execMovBD (s : State) : StepResult := completes .movBD (moveReg .b .d) s
/-- MOV B E (R100) -/
def execMovBE (s : State) : StepResult := completes .movBE (moveReg .b .e) s
/-- MOV B H (R100) -/
def execMovBH (s : State) : StepResult := completes .movBH (moveReg .b .h) s
/-- MOV B L (R100) -/
def execMovBL (s : State) : StepResult := completes .movBL (moveReg .b .l) s
/-- MOV B A (R100) -/
def execMovBA (s : State) : StepResult := completes .movBA (moveReg .b .a) s
/-- MOV C B (R100) -/
def execMovCB (s : State) : StepResult := completes .movCB (moveReg .c .b) s
/-- MOV C C (R100) -/
def execMovCC (s : State) : StepResult := completes .movCC (moveReg .c .c) s
/-- MOV C D (R100) -/
def execMovCD (s : State) : StepResult := completes .movCD (moveReg .c .d) s
/-- MOV C E (R100) -/
def execMovCE (s : State) : StepResult := completes .movCE (moveReg .c .e) s
/-- MOV C H (R100) -/
def execMovCH (s : State) : StepResult := completes .movCH (moveReg .c .h) s
/-- MOV C L (R100) -/
def execMovCL (s : State) : StepResult := completes .movCL (moveReg .c .l) s
/-- MOV C A (R100) -/
def execMovCA (s : State) : StepResult := completes .movCA (moveReg .c .a) s
/-- MOV D B (R100) -/
def execMovDB (s : State) : StepResult := completes .movDB (moveReg .d .b) s
/-- MOV D C (R100) -/
def execMovDC (s : State) : StepResult := completes .movDC (moveReg .d .c) s
/-- MOV D D (R100) -/
def execMovDD (s : State) : StepResult := completes .movDD (moveReg .d .d) s
/-- MOV D E (R100) -/
def execMovDE (s : State) : StepResult := completes .movDE (moveReg .d .e) s
/-- MOV D H (R100) -/
def execMovDH (s : State) : StepResult := completes .movDH (moveReg .d .h) s
/-- MOV D L (R100) -/
def execMovDL (s : State) : StepResult := completes .movDL (moveReg .d .l) s
/-- MOV D A (R100) -/
def execMovDA (s : State) : StepResult := completes .movDA (moveReg .d .a) s
/-- MOV E B (R100) -/
def execMovEB (s : State) : StepResult := completes .movEB (moveReg .e .b) s
/-- MOV E C (R100) -/
def execMovEC (s : State) : StepResult := completes .movEC (moveReg .e .c) s
/-- MOV E D (R100) -/
def execMovED (s : State) : StepResult := completes .movED (moveReg .e .d) s
/-- MOV E E (R100) -/
def execMovEE (s : State) : StepResult := completes .movEE (moveReg .e .e) s
/-- MOV E H (R100) -/
def execMovEH (s : State) : StepResult := completes .movEH (moveReg .e .h) s
/-- MOV E L (R100) -/
def execMovEL (s : State) : StepResult := completes .movEL (moveReg .e .l) s
/-- MOV E A (R100) -/
def execMovEA (s : State) : StepResult := completes .movEA (moveReg .e .a) s
/-- MOV H B (R100) -/
def execMovHB (s : State) : StepResult := completes .movHB (moveReg .h .b) s
/-- MOV H C (R100) -/
def execMovHC (s : State) : StepResult := completes .movHC (moveReg .h .c) s
/-- MOV H D (R100) -/
def execMovHD (s : State) : StepResult := completes .movHD (moveReg .h .d) s
/-- MOV H E (R100) -/
def execMovHE (s : State) : StepResult := completes .movHE (moveReg .h .e) s
/-- MOV H H (R100) -/
def execMovHH (s : State) : StepResult := completes .movHH (moveReg .h .h) s
/-- MOV H L (R100) -/
def execMovHL (s : State) : StepResult := completes .movHL (moveReg .h .l) s
/-- MOV H A (R100) -/
def execMovHA (s : State) : StepResult := completes .movHA (moveReg .h .a) s
/-- MOV L B (R100) -/
def execMovLB (s : State) : StepResult := completes .movLB (moveReg .l .b) s
/-- MOV L C (R100) -/
def execMovLC (s : State) : StepResult := completes .movLC (moveReg .l .c) s
/-- MOV L D (R100) -/
def execMovLD (s : State) : StepResult := completes .movLD (moveReg .l .d) s
/-- MOV L E (R100) -/
def execMovLE (s : State) : StepResult := completes .movLE (moveReg .l .e) s
/-- MOV L H (R100) -/
def execMovLH (s : State) : StepResult := completes .movLH (moveReg .l .h) s
/-- MOV L L (R100) -/
def execMovLL (s : State) : StepResult := completes .movLL (moveReg .l .l) s
/-- MOV L A (R100) -/
def execMovLA (s : State) : StepResult := completes .movLA (moveReg .l .a) s
/-- MOV A B (R100) -/
def execMovAB (s : State) : StepResult := completes .movAB (moveReg .a .b) s
/-- MOV A C (R100) -/
def execMovAC (s : State) : StepResult := completes .movAC (moveReg .a .c) s
/-- MOV A D (R100) -/
def execMovAD (s : State) : StepResult := completes .movAD (moveReg .a .d) s
/-- MOV A E (R100) -/
def execMovAE (s : State) : StepResult := completes .movAE (moveReg .a .e) s
/-- MOV A H (R100) -/
def execMovAH (s : State) : StepResult := completes .movAH (moveReg .a .h) s
/-- MOV A L (R100) -/
def execMovAL (s : State) : StepResult := completes .movAL (moveReg .a .l) s
/-- MOV A A (R100) -/
def execMovAA (s : State) : StepResult := completes .movAA (moveReg .a .a) s

/-! MOV r,M (R101) -/

/-- MOV B M (R101) -/
def execMovBM (s : State) : StepResult := completes .movBM (loadFromM .b) s
/-- MOV C M (R101) -/
def execMovCM (s : State) : StepResult := completes .movCM (loadFromM .c) s
/-- MOV D M (R101) -/
def execMovDM (s : State) : StepResult := completes .movDM (loadFromM .d) s
/-- MOV E M (R101) -/
def execMovEM (s : State) : StepResult := completes .movEM (loadFromM .e) s
/-- MOV H M (R101) -/
def execMovHM (s : State) : StepResult := completes .movHM (loadFromM .h) s
/-- MOV L M (R101) -/
def execMovLM (s : State) : StepResult := completes .movLM (loadFromM .l) s
/-- MOV A M (R101) -/
def execMovAM (s : State) : StepResult := completes .movAM (loadFromM .a) s

/-! MOV M,r (R102) -/

/-- MOV M B (R102) -/
def execMovMB (s : State) : StepResult := completes .movMB (storeToM .b) s
/-- MOV M C (R102) -/
def execMovMC (s : State) : StepResult := completes .movMC (storeToM .c) s
/-- MOV M D (R102) -/
def execMovMD (s : State) : StepResult := completes .movMD (storeToM .d) s
/-- MOV M E (R102) -/
def execMovME (s : State) : StepResult := completes .movME (storeToM .e) s
/-- MOV M H (R102) -/
def execMovMH (s : State) : StepResult := completes .movMH (storeToM .h) s
/-- MOV M L (R102) -/
def execMovML (s : State) : StepResult := completes .movML (storeToM .l) s
/-- MOV M A (R102) -/
def execMovMA (s : State) : StepResult := completes .movMA (storeToM .a) s

/-! MVI r (R103), MVI M (R104) -/

/-- MVI B data (R103) -/
def execMviB (data : Byte) (s : State) : StepResult := completes (.mviB data) (loadImmediate (.reg .b) data) s
/-- MVI C data (R103) -/
def execMviC (data : Byte) (s : State) : StepResult := completes (.mviC data) (loadImmediate (.reg .c) data) s
/-- MVI D data (R103) -/
def execMviD (data : Byte) (s : State) : StepResult := completes (.mviD data) (loadImmediate (.reg .d) data) s
/-- MVI E data (R103) -/
def execMviE (data : Byte) (s : State) : StepResult := completes (.mviE data) (loadImmediate (.reg .e) data) s
/-- MVI H data (R103) -/
def execMviH (data : Byte) (s : State) : StepResult := completes (.mviH data) (loadImmediate (.reg .h) data) s
/-- MVI L data (R103) -/
def execMviL (data : Byte) (s : State) : StepResult := completes (.mviL data) (loadImmediate (.reg .l) data) s
/-- MVI M data (R104) -/
def execMviM (data : Byte) (s : State) : StepResult := completes (.mviM data) (loadImmediate .m data) s
/-- MVI A data (R103) -/
def execMviA (data : Byte) (s : State) : StepResult := completes (.mviA data) (loadImmediate (.reg .a) data) s

/-! LXI (R105) -/

/-- LXI B data16 (R105) -/
def execLxiB (data : Word) (s : State) : StepResult := completes (.lxiB data) (loadPair .bc data) s
/-- LXI D data16 (R105) -/
def execLxiD (data : Word) (s : State) : StepResult := completes (.lxiD data) (loadPair .de data) s
/-- LXI H data16 (R105) -/
def execLxiH (data : Word) (s : State) : StepResult := completes (.lxiH data) (loadPair .hl data) s
/-- LXI SP data16 (R105) -/
def execLxiSP (data : Word) (s : State) : StepResult := completes (.lxiSP data) (loadPair .sp data) s

/-! LDA (R106), STA (R107), LDAX (R108), STAX (R109) -/

/-- STAX B (R109) -/
def execStaxB (s : State) : StepResult := completes .staxB (storeIndirect .bc) s
/-- LDAX B (R108) -/
def execLdaxB (s : State) : StepResult := completes .ldaxB (loadIndirect .bc) s
/-- STAX D (R109) -/
def execStaxD (s : State) : StepResult := completes .staxD (storeIndirect .de) s
/-- LDAX D (R108) -/
def execLdaxD (s : State) : StepResult := completes .ldaxD (loadIndirect .de) s
/-- STA addr (R107) -/
def execSta (addr : Word) (s : State) : StepResult := completes (.sta addr) (storeDirect addr) s
/-- LDA addr (R106) -/
def execLda (addr : Word) (s : State) : StepResult := completes (.lda addr) (loadDirect addr) s

/-! LHLD (R110), SHLD (R111), XCHG (R112) -/

/-- SHLD addr (R111) -/
def execShld (addr : Word) (s : State) : StepResult := completes (.shld addr) (storeHL addr) s
/-- LHLD addr (R110) -/
def execLhld (addr : Word) (s : State) : StepResult := completes (.lhld addr) (loadHL addr) s
/-- XCHG (R112) -/
def execXchg (s : State) : StepResult := completes .xchg exchange s

end Sys2Proof.Machine
end

