-- ==== Sys2Proof/Machine/Step.lean ====
section
/-! DEFINITION. The step (spec/30_encoding.md R70), and placing an instruction where the next step fetches. -/

namespace Sys2Proof.Machine

/-- R70: one fetch-decode-execute transition, only when the trap status is `running`; a trapped machine takes no
further step (R45). -/
def step (s : State) : Host.Outcome State Fault Refusal :=
  match s.trap with
  | .running => exec s.fetch s
  | .trapped pc0 op => .fault (.terminated pc0 op)

/-- The state with the bytes of a table word at `pc` and the two addresses after it, and the trap status `running`,
so that the next step fetches and runs that instruction (log 12). -/
def State.withFetchWord (s : State) (nbits w : Nat) : State :=
  { s.placeWord nbits w with trap := .running }

end Sys2Proof.Machine
end

