-- ==== Sys2Proof/Machine/Access.lean ====
section
/-! DEFINITION. The memory accesses of a step, in order (spec/20_memory.md R58, D23). With one agent the order is not
observable, so this is a function beside the machine and no state (log 19). -/

namespace Sys2Proof.Machine

/-- R58: the kinds of access. -/
inductive Access where
  /-- opcode fetch -/
  | fetch (addr : Word)
  /-- immediate read -/
  | immediate (addr : Word)
  /-- data byte read -/
  | read (addr : Word)
  /-- data byte write -/
  | write (addr : Word)
deriving DecidableEq, Repr

/-- R58: the immediate reads of an instruction of `n` bytes at `pc0`. -/
def immediateReads (pc0 : Word) (n : Nat) : List Access :=
  if n = 3 then [.immediate (pc0 + 1), .immediate (pc0 + 2)]
  else if n = 2 then [.immediate (pc0 + 1)]
  else []

/-- R58: the data accesses of an instruction in the state before it, in order. -/
def dataAccesses (i : Instr) (s : State) : List Access :=
  match i with
  -- MOV r,M; ADD to CMP M
  | .movBM | .movCM | .movDM | .movEM | .movHM | .movLM | .movAM
  | .addM | .adcM | .subM | .sbbM | .anaM | .xraM | .oraM | .cmpM => [.read s.hl]
  -- MOV M,r; MVI M
  | .movMB | .movMC | .movMD | .movME | .movMH | .movML | .movMA | .mviM _ => [.write s.hl]
  | .inrM | .dcrM => [.read s.hl, .write s.hl]
  | .lda addr => [.read addr]
  | .sta addr => [.write addr]
  | .ldaxB => [.read (s.readPair .bc)]
  | .ldaxD => [.read (s.readPair .de)]
  | .staxB => [.write (s.readPair .bc)]
  | .staxD => [.write (s.readPair .de)]
  | .lhld addr => [.read addr, .read (addr + 1)]
  | .shld addr => [.write addr, .write (addr + 1)]
  | .call _ => [.write (s.sp - 1), .write (s.sp - 2)]
  | .ret => [.read s.sp, .read (s.sp + 1)]
  -- no data access
  | .movBB | .movBC | .movBD | .movBE | .movBH | .movBL | .movBA | .movCB | .movCC | .movCD | .movCE | .movCH
  | .movCL | .movCA | .movDB | .movDC | .movDD | .movDE | .movDH | .movDL | .movDA | .movEB | .movEC | .movED
  | .movEE | .movEH | .movEL | .movEA | .movHB | .movHC | .movHD | .movHE | .movHH | .movHL | .movHA | .movLB
  | .movLC | .movLD | .movLE | .movLH | .movLL | .movLA | .movAB | .movAC | .movAD | .movAE | .movAH | .movAL
  | .movAA | .mviB _ | .mviC _ | .mviD _ | .mviE _ | .mviH _ | .mviL _ | .mviA _ | .lxiB _ | .lxiD _
  | .lxiH _ | .lxiSP _ | .xchg | .addB | .addC | .addD | .addE | .addH | .addL | .addA | .adi _ | .adcB
  | .adcC | .adcD | .adcE | .adcH | .adcL | .adcA | .aci _ | .subB | .subC | .subD | .subE | .subH | .subL
  | .subA | .sui _ | .sbbB | .sbbC | .sbbD | .sbbE | .sbbH | .sbbL | .sbbA | .sbi _ | .inrB | .inrC | .inrD
  | .inrE | .inrH | .inrL | .inrA | .dcrB | .dcrC | .dcrD | .dcrE | .dcrH | .dcrL | .dcrA | .inxB | .inxD
  | .inxH | .inxSP | .dcxB | .dcxD | .dcxH | .dcxSP | .dadB | .dadD | .dadH | .dadSP | .daa | .anaB | .anaC
  | .anaD | .anaE | .anaH | .anaL | .anaA | .ani _ | .xraB | .xraC | .xraD | .xraE | .xraH | .xraL | .xraA
  | .xri _ | .oraB | .oraC | .oraD | .oraE | .oraH | .oraL | .oraA | .ori _ | .cmpB | .cmpC | .cmpD | .cmpE
  | .cmpH | .cmpL | .cmpA | .cpi _ | .rlc | .rrc | .ral | .rar | .cma | .stc | .cmc | .jnz _ | .jmp _ | .jz _
  | .jnc _ | .jc _ | .jpo _ | .jpe _ | .jp _ | .jm _
  | .unimplemented _ => []

/-- R58: every access of a step that runs `i` in the state before it, in order. -/
def accesses (i : Instr) (s : State) : List Access :=
  .fetch s.pc :: (immediateReads s.pc i.length ++ dataAccesses i s)

/-- The addresses that an instruction writes, in order (R58). -/
def writeAddrs : List Access → List Word
  | [] => []
  | .write addr :: rest => addr :: writeAddrs rest
  | .fetch _ :: rest | .immediate _ :: rest | .read _ :: rest => writeAddrs rest

/-- The addresses that a step reads: the fetch, the immediates and the data (R58). -/
def readAddrs : List Access → List Word
  | [] => []
  | .write _ :: rest => readAddrs rest
  | .fetch addr :: rest | .immediate addr :: rest | .read addr :: rest => addr :: readAddrs rest

end Sys2Proof.Machine
end

