-- ==== Sys2Proof/Machine/HostInterface.lean ====
section
/-! DEFINITION. What the host can do to the machine between steps (spec/00_scope.md R6, spec/70_reset_and_hazards.md R234
to R241): load, and the inspection interface. Creation is `State.create`, the step is Step.lean's. -/

namespace Sys2Proof.Machine

/-! ### Load (R234 to R237) -/

/-- R234, R235: the bytes from index `i` on, each to the cell of its index modulo 65536, in order. -/
def State.loadFrom (s : State) (i : Nat) : List Byte → State
  | [] => s
  | v :: rest => State.loadFrom (s.writeByte (BitVec.ofNat 16 i) v) (i + 1) rest

/-- R234, R235: `load(bytes)` from a source that can be read, by `LOAD_OVERFLOW`. It never fails for size. -/
def State.load (s : State) (bytes : List Byte) : State :=
  match s.config.loadOverflow with
  | .wrap => s.loadFrom 0 bytes
  | .truncate => s.loadFrom 0 (bytes.take 65536)

/-- R236: `n` cells from address `i` on take free values, one each (log 11). -/
def State.scramble (s : State) (i : Nat) : Nat → State
  | 0 => s
  | n + 1 => State.scramble ((s.writeByte (BitVec.ofNat 16 i) s.nextFree).useFree) (i + 1) n

/-- R236: how many cells a failed load could have reached: the number of bytes offered, if known, and at most all. -/
def reachable (offered : Option Nat) : Nat :=
  match offered with
  | some n => min n 65536
  | none => 65536

/-- What the host hands to load: bytes, or a source that cannot be read and the number of bytes it offered, if known. -/
inductive LoadSource where
  | bytes (bytes : List Byte)
  | failing (offered : Option Nat)
deriving DecidableEq, Repr

/-- R234, R236: load, and whether it is ok (`true`) or a load failure (`false`). A failure is no trap. -/
def State.loadSource (s : State) : LoadSource → State × Bool
  | .bytes bytes => (s.load bytes, true)
  | .failing offered => (s.scramble 0 (reachable offered), false)

/-! ### The inspection interface (R240) -/

/-- A place the host may read or write between steps. -/
inductive Place where
  | reg (r : Reg)
  | pair (p : Pair)
  | flag (x : Flag)
  | flagsCell
  | pc
  | cell (addr : Word)
deriving DecidableEq, Repr

/-- R240: an inspection read, as a number. It changes nothing. -/
def State.inspect (s : State) : Place → Nat
  | .reg r => (s.readReg r).toNat
  | .pair p => (s.readPair p).toNat
  | .flag x => (s.flag x).toNat
  | .flagsCell => s.f.toNat
  | .pc => s.pc.toNat
  | .cell addr => (s.readByte addr).toNat

/-- R240: an inspection write; it keeps as many low bits as the place holds, and changes that place only. -/
def State.preset (s : State) (v : Nat) : Place → State
  | .reg r => s.writeReg r (BitVec.ofNat 8 v)
  | .pair p => s.writePair p (BitVec.ofNat 16 v)
  | .flag x => s.setFlag x (v % 2 == 1)
  | .flagsCell => s.setF (BitVec.ofNat 8 v)
  | .pc => s.setPc (BitVec.ofNat 16 v)
  | .cell addr => s.writeByte addr (BitVec.ofNat 8 v)

end Sys2Proof.Machine
end

