-- ==== Sys2Proof/WellFormed.lean ====
section
/-! DEFINITION. Which instructions a build has (spec/30_encoding.md R72, R73, R86, R87). Operand ranges need no check:
the types of Syntax.lean hold exactly the values of the fields. -/

namespace Sys2Proof

/-- An instruction is well formed for a build: `unimplemented op` only for an opcode outside the build's
`IMPLEMENTED` (R87), any other instruction only if its opcode is in it (R86). -/
def WellFormed (c : Config) (i : Instr) : Bool :=
  if i = .unimplemented i.opcode then !c.implements i.opcode else c.implements i.opcode

end Sys2Proof
end

