-- ==== Sys2Proof/Safety.lean ====
section
/-! DEFINITION. Runs, the invariant, and the terms that statements about the machine are written in: the form of an
instruction, completing, and what is left unchanged. -/

namespace Sys2Proof.Machine

/-! ### Runs (R243) -/

/-- The machine may take a step (R45). -/
abbrev State.Running (s : State) : Prop := s.trap = .running

/-- R243: the state after `n` steps, or the trapped state if the trap came first. -/
def runSteps : Nat → State → State
  | 0, s => s
  | n + 1, s =>
    match step s with
    | .next t => runSteps n t
    | .fault _ => s
    | .refused _ => s

/-- A safe run of `n` steps: none of them traps. -/
abbrev SafeRun (n : Nat) (s : State) : Prop := (runSteps n s).Running

/-! ### The invariant -/

/-- What every step keeps: memory in canonical form, parameters that are legal, a returned count that is a small
positive integer (R245), and a trap status that tells what happened (R220, R221). -/
structure State.Inv (s : State) : Prop where
  mem : s.mem.wf
  config : s.config.Wf
  cycles : ∀ n, s.cycles = some n → 0 < n ∧ n < 2 ^ 32
  trap : ∀ pc0 op, s.trap = .trapped pc0 op →
    s.pc = pc0 + 1 ∧ s.cycles = none ∧ s.readByte pc0 = op ∧ s.config.implements op = false

/-! ### Terms for statements about an instruction -/

/-- An instruction's encoding, its length, and its count in the default `CYCLES` table. -/
def HasForm (i : Instr) (op : Byte) (len cyc : Nat) : Prop :=
  i.opcode = op ∧ i.length = len ∧ defaultCycles op = cyc

/-- The form of an ALU instruction, by its second operand (R78, R82): `10aaasss`, `10aaa110`, `11aaa110`. -/
def AluForm (op : AluOp) : Source → Prop
  | .reg r => HasForm (.alu op (.reg r)) (0b10#2 ++ op.code ++ r.code) 1 1
  | .m => HasForm (.alu op .m) (0b10#2 ++ op.code ++ 0b110#3) 1 2
  | .imm data => HasForm (.alu op (.imm data)) (0b11#2 ++ op.code ++ 0b110#3) 2 2

/-- The instruction executes: `exec` answers `t`, and `t` holds the count that the step returns. -/
def Completes (i : Instr) (s t : State) : Prop :=
  exec i s = .next t ∧ t.cycles = some (s.config.cyclesOf i.opcode)

/-- The address after the whole instruction: `next` of R71. -/
def nextAddr (i : Instr) (s : State) : Word := s.pc + BitVec.ofNat 16 i.length

/-- What stays: every register but those named, every bit of the flags cell but the flags named (padding bits
included), every byte of memory but those at the addresses named, the trap status, the parameters, and the counter of
free values. The program counter and SP are not spoken of. -/
structure Frame (regs : List Reg) (flags : List Flag) (addrs : List Word) (s t : State) : Prop where
  regs : ∀ r, r ∉ regs → t.readReg r = s.readReg r
  flags : ∀ k, k < 8 → (∀ x ∈ flags, k ≠ x.bit) → t.f.getLsbD k = s.f.getLsbD k
  mem : ∀ addr, addr ∉ addrs → t.readByte addr = s.readByte addr
  trap : t.trap = s.trap
  config : t.config = s.config
  free : t.free = s.free

/-- All five flags. -/
def allFlags : List Flag := [.s, .z, .ac, .p, .cy]

/-- An even number of set bits. -/
def evenBits (v : Byte) : Bool := decide ((List.range 8).countP (fun k => v.getLsbD k) % 2 = 0)

/-- R33: Z, S and P are those of a result. -/
def SzpOf (t : State) (r : Byte) : Prop :=
  t.flag .z = decide (r = 0) ∧ t.flag .s = r.getLsbD 7 ∧ t.flag .p = evenBits r

/-- Equal in everything but memory. -/
def SameButMemory (s t : State) : Prop := { t with mem := s.mem } = s

/-! ### Terms for statements about the inspection interface -/

/-- The number of bits of a place. -/
def Place.width : Place → Nat
  | .reg _ => 8
  | .pair _ => 16
  | .flag _ => 1
  | .flagsCell => 8
  | .pc => 16
  | .cell _ => 8

/-- Two places share storage: equal ones, a pair and its registers (R23), a flag and the flags cell (R29). -/
def Place.overlaps : Place → Place → Bool
  | .reg r, .reg r' => r == r'
  | .reg r, .pair p => (pairRegs p).contains r
  | .pair p, .reg r => (pairRegs p).contains r
  | .pair p, .pair p' => p == p'
  | .flag x, .flag y => x == y
  | .flag _, .flagsCell => true
  | .flagsCell, .flag _ => true
  | .flagsCell, .flagsCell => true
  | .pc, .pc => true
  | .cell a, .cell b => a == b
  | _, _ => false

end Sys2Proof.Machine
end

