-- ==== Sys2Proof/Certificates/Slice0/Obligations.lean ====
section
/-! DEFINITION. The statements for the provers, each about the machine and none about a program. A statement about an
instruction names its form (opcode pattern, length, default cycle count), says that it completes, and says its frame.
Default cycle counts are R246's and opcode patterns R78's, both of which the spec marks as general knowledge. -/

open Sys2Proof Sys2Proof.Machine

/-! ### Decoding and encoding -/

/-- R70, R75, R78, R86, R87: decoding the bytes of a well-formed instruction of any build gives it back, and the bytes
after it. -/
def Obligations.DecodeOfEncodeIsIdentity : Prop :=
  ∀ (c : Config) (i : Instr) (rest : List Byte), WellFormed c i = true →
    decode c (encode i ++ rest) = .ok (i, rest)

/-- R72, R75, R86, R87: what the decoder reads is well formed, and its encoding is the bytes that were read. -/
def Obligations.EncodeOfDecodeIsIdentity : Prop :=
  ∀ (c : Config) (bytes : List Byte) (i : Instr) (rest : List Byte), decode c bytes = .ok (i, rest) →
    bytes = encode i ++ rest ∧ WellFormed c i = true

/-- R73, R76, R87, R221: every opcode byte decides the instruction's length. One outside `IMPLEMENTED` is the trap and
takes one byte; one inside decodes exactly when its immediates are there, to an instruction of that opcode. -/
def Obligations.OpcodeDecidesLength : Prop :=
  ∀ (c : Config) (op : Byte) (rest : List Byte),
    (c.implements op = false → decode c (op :: rest) = .ok (.unimplemented op, rest)) ∧
    (c.implements op = true →
      ((∃ i tail, decode c (op :: rest) = .ok (i, tail)) ↔ opcodeLength op ≤ rest.length + 1) ∧
      ∀ i tail, decode c (op :: rest) = .ok (i, tail) →
        i.opcode = op ∧ i.length = opcodeLength op ∧ tail = rest.drop (opcodeLength op - 1))

/-- R78, R84: words written out from the spec's encodings. The first two are the document's own (R84, W6, W7). -/
def Obligations.WordsOfTheSpecDecode : Prop :=
  decode defaultConfig [0x06, 0x2A] = .ok (.mviB 0x2A, []) ∧
  decode defaultConfig [0x3A, 0x00, 0x20] = .ok (.lda 0x2000, []) ∧
  decode defaultConfig [0b01_001_000] = .ok (.movCB, []) ∧
  decode defaultConfig [0b10_011_101] = .ok (.sbbL, []) ∧
  decode defaultConfig [0b00_10_1001] = .ok (.dadH, []) ∧
  decode defaultConfig [0b11_110_010, 0x34, 0x12] = .ok (.jp 0x1234, []) ∧
  decode defaultConfig [0xCD, 0x34, 0x12] = .ok (.call 0x1234, []) ∧
  decode defaultConfig [0x76, 0x12] = .ok (.unimplemented 0x76, [0x12])

/-- R70: when the bytes at `pc` decode to `i`, a running machine's step is `exec i`. `exec` takes the state before the
step and moves `pc` itself (log 18); `step` adds nothing. -/
def Obligations.StepRunsDecodedInstruction : Prop :=
  ∀ (s : State) (n : Nat) (i : Instr) (rest : List Byte), s.Running →
    decode s.config (s.bytesAt s.pc n) = .ok (i, rest) → step s = exec i s

/-! ### Memory and pairs -/

/-- R50, R51: a write overwrites one cell and changes no other; a read returns the current value. -/
def Obligations.ByteWriteThenRead : Prop :=
  ∀ (s : State) (addr other : Word) (v : Byte),
    (s.writeByte addr v).readByte addr = v ∧
    (other ≠ addr → (s.writeByte addr v).readByte other = s.readByte other) ∧
    SameButMemory s (s.writeByte addr v)

/-- R52: the 16-bit read is little-endian and its second address wraps modulo 65536. -/
def Obligations.WordReadIsLittleEndian : Prop :=
  ∀ (s : State) (addr : Word),
    (s.read16 addr).toNat = (s.readByte addr).toNat +
      256 * (s.mem.read ((addr.toNat + 1) % 65536)).toNat

/-- R53, R56: a 16-bit store is the low byte at the address and the high byte at the next, wrapping at 0xFFFF; the
word reads back, and no other cell changes. -/
def Obligations.WordStoreRoundTrip : Prop :=
  ∀ (s : State) (addr other v : Word),
    (s.write16 addr v).read16 addr = v ∧
    ((s.write16 addr v).readByte addr).toNat = v.toNat % 256 ∧
    ((s.write16 addr v).readByte (addr + 1)).toNat = v.toNat / 256 ∧
    (other ≠ addr → other ≠ addr + 1 → (s.write16 addr v).readByte other = s.readByte other) ∧
    SameButMemory s (s.write16 addr v)

/-- The model's own convention (log 13): two memories in canonical form that read alike at every address are equal. -/
def Obligations.CanonicalMemoryIsUnique : Prop :=
  ∀ (m m' : Memory), m.wf → m'.wf → (∀ a, a < 65536 → m.read a = m'.read a) → m = m'

/-- R24 (with R23, R25): a pair reads as its high register times 256 plus its low register; a pair write splits the
value into both and changes no other cell. -/
def Obligations.PairsAreViews : Prop :=
  ∀ (s : State) (v : Word),
    (s.readPair .bc).toNat = s.b.toNat * 256 + s.c.toNat ∧
    (s.readPair .de).toNat = s.d.toNat * 256 + s.e.toNat ∧
    (s.readPair .hl).toNat = s.h.toNat * 256 + s.l.toNat ∧
    (∃ hi lo : Byte, hi.toNat = v.toNat / 256 ∧ lo.toNat = v.toNat % 256 ∧
      s.writePair .bc v = { s with b := hi, c := lo } ∧
      s.writePair .de v = { s with d := hi, e := lo } ∧
      s.writePair .hl v = { s with h := hi, l := lo })

/-! ### Data transfer -/

/-- R100, W1: MOV r1,r2. -/
def Obligations.MovCopiesRegister : Prop :=
  ∀ (dst src : Reg) (s : State),
    HasForm (.mov dst src) (0b01#2 ++ dst.code ++ src.code) 1 1 ∧
    ∃ t, Completes (.mov dst src) s t ∧ t.readReg dst = s.readReg src ∧
      t.pc = s.pc + 1 ∧ t.sp = s.sp ∧ Frame [dst] [] [] s t

/-- R101: MOV r,M; the address is the value of HL before the write. -/
def Obligations.MovLoadsFromMemory : Prop :=
  ∀ (dst : Reg) (s : State),
    HasForm (.movFromM dst) (0b01#2 ++ dst.code ++ 0b110#3) 1 2 ∧
    ∃ t, Completes (.movFromM dst) s t ∧ t.readReg dst = s.readByte s.hl ∧
      t.pc = s.pc + 1 ∧ t.sp = s.sp ∧ Frame [dst] [] [] s t

/-- R102: MOV M,r. -/
def Obligations.MovStoresToMemory : Prop :=
  ∀ (src : Reg) (s : State),
    HasForm (.movToM src) (0b01#2 ++ 0b110#3 ++ src.code) 1 2 ∧
    ∃ t, Completes (.movToM src) s t ∧ t.readByte s.hl = s.readReg src ∧
      t.pc = s.pc + 1 ∧ t.sp = s.sp ∧ Frame [] [] [s.hl] s t

/-- R103, R104: MVI r and MVI M. That no flag is written is the spec's reading (D26). -/
def Obligations.MviLoadsImmediate : Prop :=
  ∀ (dst : Reg) (data : Byte) (s : State),
    (HasForm (.mvi (.reg dst) data) (0b00#2 ++ dst.code ++ 0b110#3) 2 2 ∧
      ∃ t, Completes (.mvi (.reg dst) data) s t ∧ t.readReg dst = data ∧
        t.pc = s.pc + 2 ∧ t.sp = s.sp ∧ Frame [dst] [] [] s t) ∧
    (HasForm (.mvi .m data) 0b00110110#8 2 3 ∧
      ∃ t, Completes (.mvi .m data) s t ∧ t.readByte s.hl = data ∧
        t.pc = s.pc + 2 ∧ t.sp = s.sp ∧ Frame [] [] [s.hl] s t)

/-- R105: LXI into BC, DE, HL or SP (no flag: D26). -/
def Obligations.LxiLoadsPair : Prop :=
  ∀ (p : Pair) (data : Word) (s : State),
    HasForm (.lxi p data) (0b00#2 ++ p.code ++ 0b0001#4) 3 3 ∧
    ∃ t, Completes (.lxi p data) s t ∧ t.readPair p = data ∧ (p ≠ .sp → t.sp = s.sp) ∧
      t.pc = s.pc + 3 ∧ Frame (pairRegs p) [] [] s t

/-- R106, R108: LDA from a direct address, LDAX from the address in BC or DE (no flag: D26). -/
def Obligations.LoadsOfAccumulator : Prop :=
  ∀ (addr : Word) (p : IndirectPair) (s : State),
    (HasForm (.lda addr) 0b00111010#8 3 4 ∧
      ∃ t, Completes (.lda addr) s t ∧ t.a = s.readByte addr ∧
        t.pc = s.pc + 3 ∧ t.sp = s.sp ∧ Frame [.a] [] [] s t) ∧
    (HasForm (.ldax p) (0b000#3 ++ p.code ++ 0b1010#4) 1 2 ∧
      ∃ t, Completes (.ldax p) s t ∧ t.a = s.readByte (s.readPair p.toPair) ∧
        t.pc = s.pc + 1 ∧ t.sp = s.sp ∧ Frame [.a] [] [] s t)

/-- R107, R109: STA to a direct address, STAX to the address in BC or DE (no flag: D26). -/
def Obligations.StoresOfAccumulator : Prop :=
  ∀ (addr : Word) (p : IndirectPair) (s : State),
    (HasForm (.sta addr) 0b00110010#8 3 4 ∧
      ∃ t, Completes (.sta addr) s t ∧ t.readByte addr = s.a ∧
        t.pc = s.pc + 3 ∧ t.sp = s.sp ∧ Frame [] [] [addr] s t) ∧
    (HasForm (.stax p) (0b000#3 ++ p.code ++ 0b0010#4) 1 2 ∧
      ∃ t, Completes (.stax p) s t ∧ t.readByte (s.readPair p.toPair) = s.a ∧
        t.pc = s.pc + 1 ∧ t.sp = s.sp ∧ Frame [] [] [s.readPair p.toPair] s t)

/-- R110, R111: LHLD loads L from the address and H from the next, SHLD stores them there; the next address is modulo
65536 (no flag: D26). -/
def Obligations.LhldAndShldMoveHL : Prop :=
  ∀ (addr : Word) (s : State),
    (HasForm (.lhld addr) 0b00101010#8 3 5 ∧
      ∃ t, Completes (.lhld addr) s t ∧ t.l = s.readByte addr ∧ t.h = s.readByte (addr + 1) ∧
        t.pc = s.pc + 3 ∧ t.sp = s.sp ∧ Frame [.h, .l] [] [] s t) ∧
    (HasForm (.shld addr) 0b00100010#8 3 5 ∧
      ∃ t, Completes (.shld addr) s t ∧ t.readByte addr = s.l ∧ t.readByte (addr + 1) = s.h ∧
        t.pc = s.pc + 3 ∧ t.sp = s.sp ∧ Frame [] [] [addr, addr + 1] s t)

/-- R112: XCHG (no flag: D26). -/
def Obligations.XchgExchangesPairs : Prop :=
  ∀ (s : State),
    HasForm .xchg 0b11101011#8 1 1 ∧
    ∃ t, Completes .xchg s t ∧ t.h = s.d ∧ t.l = s.e ∧ t.d = s.h ∧ t.e = s.l ∧
      t.pc = s.pc + 1 ∧ t.sp = s.sp ∧ Frame [.d, .e, .h, .l] [] [] s t

/-! ### Arithmetic -/

/-- R130, R131, R132, W3: ADD r, ADD M, ADI. -/
def Obligations.AddAddsToAccumulator : Prop :=
  ∀ (x : Source) (s : State),
    AluForm .add x ∧
    ∃ t, Completes (.alu .add x) s t ∧
      t.a.toNat = (s.a.toNat + (s.readSource x).toNat) % 256 ∧ SzpOf t t.a ∧
      t.flag .cy = decide (s.a.toNat + (s.readSource x).toNat > 0xFF) ∧
      t.flag .ac = decide (s.a.toNat % 16 + (s.readSource x).toNat % 16 > 0xF) ∧
      t.pc = nextAddr (.alu .add x) s ∧ t.sp = s.sp ∧ Frame [.a] allFlags [] s t

/-- R133, R134, R135: ADC r, ADC M, ACI. -/
def Obligations.AdcAddsWithCarry : Prop :=
  ∀ (x : Source) (s : State),
    AluForm .adc x ∧
    ∃ t, Completes (.alu .adc x) s t ∧
      t.a.toNat = (s.a.toNat + (s.readSource x).toNat + (s.flag .cy).toNat) % 256 ∧ SzpOf t t.a ∧
      t.flag .cy = decide (s.a.toNat + (s.readSource x).toNat + (s.flag .cy).toNat > 0xFF) ∧
      t.flag .ac = decide (s.a.toNat % 16 + (s.readSource x).toNat % 16 + (s.flag .cy).toNat > 0xF) ∧
      t.pc = nextAddr (.alu .adc x) s ∧ t.sp = s.sp ∧ Frame [.a] allFlags [] s t

/-- R136, R137, R138: SUB r, SUB M, SUI. -/
def Obligations.SubSubtractsFromAccumulator : Prop :=
  ∀ (x : Source) (s : State),
    AluForm .sub x ∧
    ∃ t, Completes (.alu .sub x) s t ∧
      (t.a.toNat : Int) = ((s.a.toNat : Int) - (s.readSource x).toNat) % 256 ∧ SzpOf t t.a ∧
      t.flag .cy = decide (s.a.toNat < (s.readSource x).toNat) ∧
      t.flag .ac = decide (s.a.toNat % 16 < (s.readSource x).toNat % 16) ∧
      t.pc = nextAddr (.alu .sub x) s ∧ t.sp = s.sp ∧ Frame [.a] allFlags [] s t

/-- R139, R140, R141 with R37: SBB r, SBB M, SBI. The auxiliary carry is by the parameter `SUB_AC_READING` (D9). -/
def Obligations.SbbSubtractsWithBorrow : Prop :=
  ∀ (x : Source) (s : State),
    AluForm .sbb x ∧
    ∃ t, Completes (.alu .sbb x) s t ∧
      (t.a.toNat : Int) = ((s.a.toNat : Int) - (s.readSource x).toNat - (s.flag .cy).toNat) % 256 ∧
      SzpOf t t.a ∧
      t.flag .cy = decide (s.a.toNat < (s.readSource x).toNat + (s.flag .cy).toNat) ∧
      (s.config.subAc = .literal →
        t.flag .ac = decide (s.a.toNat % 16 < ((s.readSource x).toNat + (s.flag .cy).toNat) % 16)) ∧
      (s.config.subAc = .nibble →
        t.flag .ac = decide (s.a.toNat % 16 < (s.readSource x).toNat % 16 + (s.flag .cy).toNat)) ∧
      t.pc = nextAddr (.alu .sbb x) s ∧ t.sp = s.sp ∧ Frame [.a] allFlags [] s t

/-- R142, R143, W4: INR r and INR M; CY is kept. That AC is the addition helper's is the spec's decision (D12). -/
def Obligations.InrIncrementsKeepingCarry : Prop :=
  ∀ (r : Reg) (s : State),
    (HasForm (.inr (.reg r)) (0b00#2 ++ r.code ++ 0b100#3) 1 1 ∧
      ∃ t, Completes (.inr (.reg r)) s t ∧ (t.readReg r).toNat = ((s.readReg r).toNat + 1) % 256 ∧
        SzpOf t (t.readReg r) ∧ t.flag .ac = decide ((s.readReg r).toNat % 16 = 15) ∧
        t.pc = s.pc + 1 ∧ t.sp = s.sp ∧ Frame [r] [.s, .z, .ac, .p] [] s t) ∧
    (HasForm (.inr .m) 0b00110100#8 1 3 ∧
      ∃ t, Completes (.inr .m) s t ∧ (t.readByte s.hl).toNat = ((s.readByte s.hl).toNat + 1) % 256 ∧
        SzpOf t (t.readByte s.hl) ∧ t.flag .ac = decide ((s.readByte s.hl).toNat % 16 = 15) ∧
        t.pc = s.pc + 1 ∧ t.sp = s.sp ∧ Frame [] [.s, .z, .ac, .p] [s.hl] s t)

/-- R144, R145, W4: DCR r and DCR M; CY is kept. That AC is the subtraction helper's is the spec's decision (D12). -/
def Obligations.DcrDecrementsKeepingCarry : Prop :=
  ∀ (r : Reg) (s : State),
    (HasForm (.dcr (.reg r)) (0b00#2 ++ r.code ++ 0b101#3) 1 1 ∧
      ∃ t, Completes (.dcr (.reg r)) s t ∧ (t.readReg r).toNat = ((s.readReg r).toNat + 255) % 256 ∧
        SzpOf t (t.readReg r) ∧ t.flag .ac = decide ((s.readReg r).toNat % 16 = 0) ∧
        t.pc = s.pc + 1 ∧ t.sp = s.sp ∧ Frame [r] [.s, .z, .ac, .p] [] s t) ∧
    (HasForm (.dcr .m) 0b00110101#8 1 3 ∧
      ∃ t, Completes (.dcr .m) s t ∧ (t.readByte s.hl).toNat = ((s.readByte s.hl).toNat + 255) % 256 ∧
        SzpOf t (t.readByte s.hl) ∧ t.flag .ac = decide ((s.readByte s.hl).toNat % 16 = 0) ∧
        t.pc = s.pc + 1 ∧ t.sp = s.sp ∧ Frame [] [.s, .z, .ac, .p] [s.hl] s t)

/-- R146, R147: INX and DCX on BC, DE, HL and SP, modulo 65536; no flag. -/
def Obligations.InxAndDcxStepPair : Prop :=
  ∀ (p : Pair) (s : State),
    (HasForm (.inx p) (0b00#2 ++ p.code ++ 0b0011#4) 1 1 ∧
      ∃ t, Completes (.inx p) s t ∧ (t.readPair p).toNat = ((s.readPair p).toNat + 1) % 65536 ∧
        (p ≠ .sp → t.sp = s.sp) ∧ t.pc = s.pc + 1 ∧ Frame (pairRegs p) [] [] s t) ∧
    (HasForm (.dcx p) (0b00#2 ++ p.code ++ 0b1011#4) 1 1 ∧
      ∃ t, Completes (.dcx p) s t ∧ (t.readPair p).toNat = ((s.readPair p).toNat + 65535) % 65536 ∧
        (p ≠ .sp → t.sp = s.sp) ∧ t.pc = s.pc + 1 ∧ Frame (pairRegs p) [] [] s t)

/-- R148, W5: DAD of BC, DE, HL or SP into HL; CY is the overflow past 0xFFFF, no other flag. -/
def Obligations.DadAddsPairToHL : Prop :=
  ∀ (p : Pair) (s : State),
    HasForm (.dad p) (0b00#2 ++ p.code ++ 0b1001#4) 1 3 ∧
    ∃ t, Completes (.dad p) s t ∧ t.hl.toNat = (s.hl.toNat + (s.readPair p).toNat) % 65536 ∧
      t.flag .cy = decide (s.hl.toNat + (s.readPair p).toNat > 0xFFFF) ∧
      t.pc = s.pc + 1 ∧ t.sp = s.sp ∧ Frame [.h, .l] [.cy] [] s t

/-- R149 under `DAA_MODE = reference`, the default (D11: the spec's decision, the algorithm general knowledge). -/
def Obligations.DaaAdjustsByReference : Prop :=
  ∀ (s : State), s.config.daa = .reference →
    HasForm .daa 0b00100111#8 1 1 ∧
    ∃ t corr, Completes .daa s t ∧
      corr = (if s.a.toNat % 16 > 9 ∨ s.flag .ac = true then 0x06 else 0) +
        (if s.a.toNat > 0x99 ∨ s.flag .cy = true then 0x60 else 0) ∧
      t.a.toNat = (s.a.toNat + corr) % 256 ∧ SzpOf t t.a ∧
      t.flag .ac = decide (s.a.toNat % 16 + corr % 16 > 0xF) ∧
      t.flag .cy = decide (s.a.toNat > 0x99 ∨ s.flag .cy = true) ∧
      t.pc = s.pc + 1 ∧ t.sp = s.sp ∧ Frame [.a] allFlags [] s t

/-- R149 under `DAA_MODE = source_literal` (D11): A takes the correction byte alone. The five flags are free values, of
which the statement says nothing; the padding bits stay, and one free value is used (log 8, log 10: the model's
counter). -/
def Obligations.DaaStoresCorrectionInSourceMode : Prop :=
  ∀ (s : State), s.config.daa = .sourceLiteral →
    HasForm .daa 0b00100111#8 1 1 ∧
    ∃ t, Completes .daa s t ∧
      t.a.toNat = (if s.a.toNat % 16 > 9 ∨ s.flag .ac = true then 0x06 else 0) +
        (if s.a.toNat > 0x99 ∨ s.flag .cy = true then 0x60 else 0) ∧
      t.pc = s.pc + 1 ∧ t.sp = s.sp ∧ t.free = s.free + 1 ∧ Frame [.a] allFlags [] s { t with free := s.free }

/-! ### Logical, compare, rotate, carry -/

/-- R160, R161, R162 with R38: ANA r, ANA M, ANI. The auxiliary carry is by the parameter `ANA_AC_RULE` (D10); its third
value is the model's (log 7, N6). -/
def Obligations.AnaAndsIntoAccumulator : Prop :=
  ∀ (x : Source) (s : State),
    AluForm .ana x ∧
    ∃ t, Completes (.alu .ana x) s t ∧ t.a = s.a &&& s.readSource x ∧ SzpOf t t.a ∧ t.flag .cy = false ∧
      (s.config.anaAc = .bit2Or → t.flag .ac = (s.a.getLsbD 2 || (s.readSource x).getLsbD 2)) ∧
      (s.config.anaAc = .bit3Or → t.flag .ac = (s.a.getLsbD 3 || (s.readSource x).getLsbD 3)) ∧
      (s.config.anaAc = .bit2And → t.flag .ac = (s.a.getLsbD 2 && (s.readSource x).getLsbD 2)) ∧
      t.pc = nextAddr (.alu .ana x) s ∧ t.sp = s.sp ∧ Frame [.a] allFlags [] s t

/-- R163, R164, R165: XRA r, XRA M, XRI. -/
def Obligations.XraXorsIntoAccumulator : Prop :=
  ∀ (x : Source) (s : State),
    AluForm .xra x ∧
    ∃ t, Completes (.alu .xra x) s t ∧ t.a = s.a ^^^ s.readSource x ∧ SzpOf t t.a ∧
      t.flag .cy = false ∧ t.flag .ac = false ∧
      t.pc = nextAddr (.alu .xra x) s ∧ t.sp = s.sp ∧ Frame [.a] allFlags [] s t

/-- R166, R167, R168: ORA r, ORA M, ORI. -/
def Obligations.OraOrsIntoAccumulator : Prop :=
  ∀ (x : Source) (s : State),
    AluForm .ora x ∧
    ∃ t, Completes (.alu .ora x) s t ∧ t.a = s.a ||| s.readSource x ∧ SzpOf t t.a ∧
      t.flag .cy = false ∧ t.flag .ac = false ∧
      t.pc = nextAddr (.alu .ora x) s ∧ t.sp = s.sp ∧ Frame [.a] allFlags [] s t

/-- R169, R170, R171: CMP r, CMP M, CPI: the flags of A minus the operand, A kept. That they are the five flags of SUB is
the spec's decision (D13). -/
def Obligations.CmpSetsFlagsOfDifference : Prop :=
  ∀ (x : Source) (s : State),
    AluForm .cmp x ∧
    ∃ t, Completes (.alu .cmp x) s t ∧ SzpOf t (s.a - s.readSource x) ∧
      t.flag .z = decide (s.a = s.readSource x) ∧
      t.flag .cy = decide (s.a.toNat < (s.readSource x).toNat) ∧
      t.flag .ac = decide (s.a.toNat % 16 < (s.readSource x).toNat % 16) ∧
      t.pc = nextAddr (.alu .cmp x) s ∧ t.sp = s.sp ∧ Frame [] allFlags [] s t

/-- R172 to R175: the rotates write A and CY. Which rotate is which is the spec's decision (D14). -/
def Obligations.RotatesMoveAccumulatorAndCarry : Prop :=
  ∀ (s : State),
    (HasForm .rlc 0b00000111#8 1 1 ∧
      ∃ t, Completes .rlc s t ∧ t.a.toNat = (2 * s.a.toNat) % 256 + s.a.toNat / 128 ∧
        t.flag .cy = s.a.getLsbD 7 ∧ t.pc = s.pc + 1 ∧ t.sp = s.sp ∧ Frame [.a] [.cy] [] s t) ∧
    (HasForm .rrc 0b00001111#8 1 1 ∧
      ∃ t, Completes .rrc s t ∧ t.a.toNat = s.a.toNat / 2 + 128 * (s.a.toNat % 2) ∧
        t.flag .cy = s.a.getLsbD 0 ∧ t.pc = s.pc + 1 ∧ t.sp = s.sp ∧ Frame [.a] [.cy] [] s t) ∧
    (HasForm .ral 0b00010111#8 1 1 ∧
      ∃ t, Completes .ral s t ∧ t.a.toNat = (2 * s.a.toNat) % 256 + (s.flag .cy).toNat ∧
        t.flag .cy = s.a.getLsbD 7 ∧ t.pc = s.pc + 1 ∧ t.sp = s.sp ∧ Frame [.a] [.cy] [] s t) ∧
    (HasForm .rar 0b00011111#8 1 1 ∧
      ∃ t, Completes .rar s t ∧ t.a.toNat = s.a.toNat / 2 + 128 * (s.flag .cy).toNat ∧
        t.flag .cy = s.a.getLsbD 0 ∧ t.pc = s.pc + 1 ∧ t.sp = s.sp ∧ Frame [.a] [.cy] [] s t)

/-- R176: CMA. That it writes no flag is the spec's decision (D26). -/
def Obligations.CmaComplementsAccumulator : Prop :=
  ∀ (s : State),
    HasForm .cma 0b00101111#8 1 1 ∧
    ∃ t, Completes .cma s t ∧ t.a.toNat = 255 - s.a.toNat ∧
      t.pc = s.pc + 1 ∧ t.sp = s.sp ∧ Frame [.a] [] [] s t

/-- R177, R178: CMC and STC write CY alone. -/
def Obligations.CmcAndStcWriteCarryAlone : Prop :=
  ∀ (s : State),
    (HasForm .cmc 0b00111111#8 1 1 ∧
      ∃ t, Completes .cmc s t ∧ (t.flag .cy).toNat = 1 - (s.flag .cy).toNat ∧
        t.pc = s.pc + 1 ∧ t.sp = s.sp ∧ Frame [] [.cy] [] s t) ∧
    (HasForm .stc 0b00110111#8 1 1 ∧
      ∃ t, Completes .stc s t ∧ t.flag .cy = true ∧
        t.pc = s.pc + 1 ∧ t.sp = s.sp ∧ Frame [] [.cy] [] s t)

/-! ### Control transfer -/

/-- R200: JMP. That it writes no flag is the spec's own decision (D26, log 16). -/
def Obligations.JmpJumps : Prop :=
  ∀ (addr : Word) (s : State),
    HasForm (.jmp addr) 0b11000011#8 3 3 ∧
    ∃ t, Completes (.jmp addr) s t ∧ t.pc = addr ∧ t.sp = s.sp ∧ Frame [] [] [] s t

/-- R201 to R208, R81: the conditional jumps. That one not taken goes on past its address bytes is the spec's decision
(D6), and so is that a jump writes no flag (D26); log 16. The numbering of the conditions is general knowledge (R81). -/
def Obligations.ConditionalJumpsTestOneFlag : Prop :=
  ∀ (cond : Cond) (addr : Word) (s : State),
    HasForm (.jcond cond addr) (0b11#2 ++ cond.code ++ 0b010#3) 3 3 ∧
    ∃ t taken, Completes (.jcond cond addr) s t ∧
      (cond = .nz → taken = !s.flag .z) ∧ (cond = .z → taken = s.flag .z) ∧
      (cond = .nc → taken = !s.flag .cy) ∧ (cond = .c → taken = s.flag .cy) ∧
      (cond = .po → taken = !s.flag .p) ∧ (cond = .pe → taken = s.flag .p) ∧
      (cond = .p → taken = !s.flag .s) ∧ (cond = .m → taken = s.flag .s) ∧
      t.pc = (if taken = true then addr else s.pc + 3) ∧ t.sp = s.sp ∧ Frame [] [] [] s t

/-- R209: CALL pushes the address after it, high byte at SP - 1 and low byte at SP - 2. The push sequence and
that no flag is written are the spec's own decisions (D7, D26, log 16). -/
def Obligations.CallPushesReturnAddress : Prop :=
  ∀ (addr : Word) (s : State),
    HasForm (.call addr) 0b11001101#8 3 5 ∧
    ∃ t, Completes (.call addr) s t ∧ t.pc = addr ∧ t.sp = s.sp - 2 ∧
      (t.readByte (s.sp - 1)).toNat = (s.pc + 3).toNat / 256 ∧
      (t.readByte (s.sp - 2)).toNat = (s.pc + 3).toNat % 256 ∧
      t.read16 t.sp = s.pc + 3 ∧ Frame [] [] [s.sp - 1, s.sp - 2] s t

/-- R210: RET pops a little-endian word. The pop sequence and that no flag is written are the spec's own decisions (D8,
D26, log 16). -/
def Obligations.RetPopsReturnAddress : Prop :=
  ∀ (s : State),
    HasForm .ret 0b11001001#8 1 3 ∧
    ∃ t, Completes .ret s t ∧
      t.pc.toNat = (s.readByte s.sp).toNat + 256 * (s.readByte (s.sp + 1)).toNat ∧
      t.sp = s.sp + 2 ∧ Frame [] [] [] s t

/-- R209, R210: CALL and then RET returns past the CALL with SP restored; only the two stack cells have changed.
That the two undo each other rests on the spec's own decisions on the push and the pop (D7, D8, and D26 for the flags;
log 16): a build that keeps the defect of C4 would not satisfy it. -/
def Obligations.CallThenRetReturns : Prop :=
  ∀ (addr : Word) (s : State),
    ∃ t u, exec (.call addr) s = .next t ∧ exec .ret t = .next u ∧
      u.pc = s.pc + 3 ∧ u.sp = s.sp ∧ Frame [] [] [s.sp - 1, s.sp - 2] s u

/-! ### The trap -/

/-- R220, R221, R223, R247 (D16, D27): UNIMPLEMENTED. The step reads one byte, advances `pc` past it, records the opcode's
address and the opcode, returns no count and changes nothing else; so does a running machine's step on any opcode
outside `IMPLEMENTED`. -/
def Obligations.UnimplementedOpcodeTraps : Prop :=
  ∀ (op : Byte) (s : State),
    (∃ t, exec (.unimplemented op) s = .next t ∧ t.trap = .trapped s.pc op ∧ t.pc = s.pc + 1 ∧ t.cycles = none ∧
      t.sp = s.sp ∧ Frame [] [] [] s { t with trap := s.trap }) ∧
    (s.Running → s.config.implements (s.readByte s.pc) = false →
      step s = exec (.unimplemented (s.readByte s.pc)) s)

/-- R45, R220, R224: a machine whose status is `trapped` takes no further step (the spec's decision D16, log 9). -/
def Obligations.TrappedMachineTakesNoStep : Prop :=
  ∀ (s : State) (pc0 : Word) (op : Byte) (n : Nat), s.trap = .trapped pc0 op →
    step s = .fault (.terminated pc0 op) ∧ runSteps n s = s

/-- R222: the report holds the opcode, and the opcode's address or that address plus one by `TRAP_PC_REPORT` (D16); a
running machine reports nothing. -/
def Obligations.TrapReportFollowsParameter : Prop :=
  ∀ (s : State), (s.Running → s.trapReport = none) ∧
    ∀ pc0 op, s.trap = .trapped pc0 op →
      (s.config.trapPc = .opcodeAddress → s.trapReport = some (pc0, op)) ∧
      (s.config.trapPc = .advanced → s.trapReport = some (pc0 + 1, op))

/-- R73, R225, R226: a running machine always takes a step, and it traps exactly when the opcode at `pc` is outside
`IMPLEMENTED`: no other exception exists. R45, R220: what the trap status then holds, which is the spec's own decision
(D16); that the trap is a next state is the model's choice (log 9). -/
def Obligations.OnlyUnimplementedOpcodesTrap : Prop :=
  ∀ (s : State), s.Running →
    ∃ t, step s = .next t ∧ (t.Running ↔ s.config.implements (s.readByte s.pc) = true) ∧
      (∀ pc0 op, t.trap = .trapped pc0 op → pc0 = s.pc ∧ op = s.readByte s.pc)

/-! ### The whole machine -/

/-- R245, R246, R247: a step that completes returns `CYCLES` of its opcode, a small positive integer; 0x06 returns 2 and
0x3A returns 4 whatever the parameter says, any other opcode its entry, or the default table's where it has none. The
parameter is the spec's decision (D15, log 4); that a trapping step answers a state (log 9) and that the
state holds the count (log 5) are the model's choices. -/
def Obligations.StepReturnsCycleCount : Prop :=
  ∀ (s t : State), s.config.Wf → step s = .next t →
    (t.Running → ∃ n, t.cycles = some n ∧ 0 < n ∧ n < 2 ^ 32 ∧
      (s.readByte s.pc = 0x06 → n = 2) ∧ (s.readByte s.pc = 0x3A → n = 4) ∧
      (s.readByte s.pc ≠ 0x06 → s.readByte s.pc ≠ 0x3A →
        n = (findCount (s.readByte s.pc) s.config.cycleCounts).getD (defaultCycles (s.readByte s.pc)))) ∧
    (¬t.Running → t.cycles = none)

/-- R58: a step changes no byte of memory but those that its access list writes. -/
def Obligations.StepWritesOnlyListedCells : Prop :=
  ∀ (s t : State), step s = .next t →
    ∀ addr, addr ∉ writeAddrs (accesses s.fetch s) → t.readByte addr = s.readByte addr

/-- R58, R74: a step depends on nothing but the registers and the bytes that its access list reads. Two states that
differ in memory alone, and agree on those bytes, step to states that differ in memory alone, and agree on every byte
written and wherever they agreed. -/
def Obligations.StepDependsOnlyOnListedCells : Prop :=
  ∀ (s s' : State), SameButMemory s s' → s.Running →
    (∀ addr ∈ readAddrs (accesses s.fetch s), s'.readByte addr = s.readByte addr) →
    ∃ t t', step s = .next t ∧ step s' = .next t' ∧ SameButMemory t t' ∧
      ∀ addr, (addr ∈ writeAddrs (accesses s.fetch s) ∨ s'.readByte addr = s.readByte addr) →
        t'.readByte addr = t.readByte addr

/-- R40, R45, R221, R245: every step keeps the invariant. What it says of the trap is the spec's decision (D16, D27,
log 9). -/
def Obligations.StepKeepsInvariant : Prop :=
  ∀ (s t : State), s.Inv → step s = .next t → t.Inv

/-- R44, R238: creation, for every value of `RESET_REGS` and every legal choice of the parameters. That `pc` is 0x0000 is
the spec's own decision (D5, log 14), as is the trap status (D16, log 9). `State.reset` is the creation that log 1 names,
a choice of the model. -/
def Obligations.CreationState : Prop :=
  ∀ (r : ResetRegs) (c : Config), c.Wf →
    (State.create r c).Inv ∧ (State.create r c).pc = 0x0000 ∧ (State.create r c).Running ∧
    (∀ addr, (State.create r c).readByte addr = 0x00) ∧
    ((State.create r c).a, (State.create r c).b, (State.create r c).c, (State.create r c).d, (State.create r c).e,
      (State.create r c).h, (State.create r c).l, (State.create r c).f, (State.create r c).sp) =
      (r.a, r.b, r.c, r.d, r.e, r.h, r.l, r.f, r.sp) ∧
    State.reset.Inv

/-- R30, R8: no step writes the padding bits 1, 3 and 5 of the flags cell, or the parameters. -/
def Obligations.PaddingBitsAndParametersNeverChange : Prop :=
  ∀ (s t : State) (n : Nat), t = runSteps n s →
    t.f.getLsbD 1 = s.f.getLsbD 1 ∧ t.f.getLsbD 3 = s.f.getLsbD 3 ∧ t.f.getLsbD 5 = s.f.getLsbD 5 ∧
      t.config = s.config

/-- R39: the flags cell changes only in the instructions that the table names as flag writers. That a row which names no
flag writes none is the spec's own decision (D26, log 16), and so are the flags of the rotates (D14). -/
def Obligations.FlagsChangeOnlyInFlagWriters : Prop :=
  ∀ (i : Instr) (s t : State), exec i s = .next t → t.f ≠ s.f →
    (∃ op x, i = .alu op x) ∨ (∃ x, i = .inr x) ∨ (∃ x, i = .dcr x) ∨ (∃ p, i = .dad p) ∨
      i ∈ [.daa, .rlc, .rrc, .ral, .rar, .cmc, .stc]

/-- R28: SP is written by LXI SP, INX SP, DCX SP, CALL and RET alone. -/
def Obligations.StackPointerWriters : Prop :=
  ∀ (i : Instr) (s t : State), exec i s = .next t → t.sp ≠ s.sp →
    (∃ data, i = .lxiSP data) ∨ i = .inxSP ∨ i = .dcxSP ∨ (∃ addr, i = .call addr) ∨ i = .ret

/-- R26, R199: `pc` goes to the address after the instruction but for jumps, CALL and RET; after a trap it stands past
the opcode byte. The trap's `pc` and that of a jump not taken are the spec's own decisions (D27, log 9; D6, log 16). -/
def Obligations.ProgramCounterAdvancesButForTransfers : Prop :=
  ∀ (i : Instr) (s t : State), exec i s = .next t → t.pc ≠ nextAddr i s →
    (∃ addr, i = .jmp addr) ∨ (∃ cond addr, i = .jcond cond addr) ∨ (∃ addr, i = .call addr) ∨ i = .ret

/-- R66 (D25): a store to the next instruction's opcode is seen by the very next fetch: after STA or MOV M,r to the
address that follows, a step decodes the byte stored. -/
def Obligations.StoreIsSeenByNextFetch : Prop :=
  ∀ (s : State) (src : Reg),
    (∃ t, exec (.sta (s.pc + 3)) s = .next t ∧
      t.fetch = decodeInstr s.config s.a (s.readByte (s.pc + 4)) (s.readByte (s.pc + 5))) ∧
    (s.hl = s.pc + 1 → ∃ t, exec (.movToM src) s = .next t ∧
      t.fetch = decodeInstr s.config (s.readReg src) (s.readByte (s.pc + 2)) (s.readByte (s.pc + 3)))

/-! ### Load and inspection -/

/-- R234, R237: load copies byte `i` to cell `i`, keeps the cells at and beyond the input's length, and changes memory
alone. That it changes nothing but memory is the spec's own decision (D19, log 16). -/
def Obligations.LoadCopiesBytesFromAddressZero : Prop :=
  ∀ (s : State) (bytes : List Byte), bytes.length ≤ 65536 →
    s.loadSource (.bytes bytes) = (s.load bytes, true) ∧
    (∀ addr, (s.load bytes).readByte addr = (bytes[addr.toNat]?).getD (s.readByte addr)) ∧
    SameButMemory s (s.load bytes) ∧ (s.mem.wf → (s.load bytes).mem.wf)

/-- R235 (C7, D17): an input of any length is loaded; under `wrap` the last byte of a cell's index modulo 65536 wins,
under `truncate` the bytes from 65536 on are ignored. -/
def Obligations.LoadOverflowFollowsParameter : Prop :=
  ∀ (s : State) (bytes : List Byte) (addr : Word),
    (s.config.loadOverflow = .wrap →
      ∀ k, 65536 * k + addr.toNat < bytes.length → bytes.length ≤ 65536 * (k + 1) + addr.toNat →
        some ((s.load bytes).readByte addr) = bytes[65536 * k + addr.toNat]?) ∧
    (s.config.loadOverflow = .truncate →
      (s.load bytes).readByte addr = (bytes[addr.toNat]?).getD (s.readByte addr)) ∧
    (bytes.length ≤ addr.toNat → (s.load bytes).readByte addr = s.readByte addr)

/-- R236 (D18): a failed load is reported, is no trap, and leaves everything but the memory cells that it could have
reached (and the model's counter of free values, log 10) as it was. What those cells hold is free. -/
def Obligations.FailedLoadKeepsUnreachableState : Prop :=
  ∀ (s : State) (offered : Option Nat),
    ∃ t, s.loadSource (.failing offered) = (t, false) ∧
      SameButMemory s { t with free := s.free } ∧ (s.mem.wf → t.mem.wf) ∧
      ∀ addr : Word, (∃ n, offered = some n ∧ n ≤ addr.toNat) → t.readByte addr = s.readByte addr

/-- R240 (C10, D24): an inspection write changes exactly the place written, and reads back; a read is of what the state
holds, since `inspect` gives no new state. -/
def Obligations.InspectionWriteChangesOnlyItsPlace : Prop :=
  ∀ (s : State) (v : Nat) (p q : Place),
    (s.preset v p).inspect p = v % 2 ^ p.width ∧
    (p.overlaps q = false → (s.preset v p).inspect q = s.inspect q) ∧
    (s.preset v p).trap = s.trap ∧ (s.preset v p).config = s.config ∧ (s.preset v p).cycles = s.cycles ∧
    (s.mem.wf → (s.preset v p).mem.wf)
end

