-- ==== Sys2Proof/Laws/Decode.lean ====
section
/-! SUPPORT. Facts of the encoding tables: lengths, opcodes, and that the decoder looks only at an instruction's own
bytes. -/

namespace Sys2Proof

theorem Instr.length_eq (i : Instr) : i.length = (encode i).length := by
  simp [Instr.length, encode, Nat.add_comm]

/-- R87: well-formedness of the trap. -/
@[simp] theorem WellFormed_unimplemented (c : Config) (op : Byte) :
    WellFormed c (.unimplemented op) = !c.implements op := by simp [WellFormed, Instr.opcode]

/-- R86: well-formedness of every other instruction. -/
theorem WellFormed_of_ne (c : Config) (i : Instr) (h : ∀ op, i ≠ .unimplemented op) :
    WellFormed c i = c.implements i.opcode := by simp [WellFormed, h]

/-- R76: the length is the one that the opcode gives, for every instruction that is not a trap. -/
theorem opcodeLength_opcode (i : Instr) (h : ∀ op, i ≠ .unimplemented op) : opcodeLength i.opcode = i.length := by
  cases i <;> first
    | exact absurd rfl (h _)
    | rfl
    | (simp only [Instr.opcode, Instr.length, Instr.immediates]; rfl)

/-- R86: the opcode of every instruction but `unimplemented` is in the default set. -/
theorem defaultImplemented_opcode (i : Instr) (h : ∀ op, i ≠ .unimplemented op) :
    defaultImplemented i.opcode = true := by
  cases i <;> first
    | exact absurd rfl (h _)
    | rfl
    | (simp only [Instr.opcode]; rfl)

theorem opcodeLength_cases (op : Byte) : opcodeLength op = 1 ∨ opcodeLength op = 2 ∨ opcodeLength op = 3 := by
  unfold opcodeLength
  repeat' split
  all_goals simp

theorem Config.implements_default {c : Config} {op : Byte} (h : c.implements op = true) :
    defaultImplemented op = true := by
  simp only [Config.implements, Bool.and_eq_true] at h
  exact h.1

/-! ### The family selectors: opcode, length -/

theorem Instr.length_alu_reg (op : AluOp) (r : Reg) : (Instr.alu op (.reg r)).length = 1 := by
  cases op <;> cases r <;> rfl
theorem Instr.length_alu_m (op : AluOp) : (Instr.alu op .m).length = 1 := by cases op <;> rfl
theorem Instr.length_alu_imm (op : AluOp) (data : Byte) : (Instr.alu op (.imm data)).length = 2 := by
  cases op <;> rfl
@[simp] theorem Instr.length_mov (dst src : Reg) : (Instr.mov dst src).length = 1 := by
  cases dst <;> cases src <;> rfl
@[simp] theorem Instr.length_movFromM (dst : Reg) : (Instr.movFromM dst).length = 1 := by cases dst <;> rfl
@[simp] theorem Instr.length_movToM (src : Reg) : (Instr.movToM src).length = 1 := by cases src <;> rfl
@[simp] theorem Instr.length_mvi (x : Operand) (data : Byte) : (Instr.mvi x data).length = 2 := by
  rcases x with r | _
  · cases r <;> rfl
  · rfl
@[simp] theorem Instr.length_lxi (p : Pair) (data : Word) : (Instr.lxi p data).length = 3 := by cases p <;> rfl
@[simp] theorem Instr.length_ldax (p : IndirectPair) : (Instr.ldax p).length = 1 := by cases p <;> rfl
@[simp] theorem Instr.length_stax (p : IndirectPair) : (Instr.stax p).length = 1 := by cases p <;> rfl
@[simp] theorem Instr.length_inr (x : Operand) : (Instr.inr x).length = 1 := by
  rcases x with r | _
  · cases r <;> rfl
  · rfl
@[simp] theorem Instr.length_dcr (x : Operand) : (Instr.dcr x).length = 1 := by
  rcases x with r | _
  · cases r <;> rfl
  · rfl
@[simp] theorem Instr.length_inx (p : Pair) : (Instr.inx p).length = 1 := by cases p <;> rfl
@[simp] theorem Instr.length_dcx (p : Pair) : (Instr.dcx p).length = 1 := by cases p <;> rfl
@[simp] theorem Instr.length_dad (p : Pair) : (Instr.dad p).length = 1 := by cases p <;> rfl
@[simp] theorem Instr.length_jcond (cond : Cond) (addr : Word) : (Instr.jcond cond addr).length = 3 := by
  cases cond <;> rfl

end Sys2Proof
end

