-- ==== Sys2Proof/Laws/Memory.lean ====
section
/-! SUPPORT. The laws of the memory list: what a read gives after a write, and that every operation keeps the canonical
form. No law of a read needs the canonical form. -/

namespace Sys2Proof.Machine

theorem Memory.read_unlist (m : Memory) (a b : Nat) :
    (m.unlist a).read b = if b = a then 0 else m.read b := by
  induction m with
  | nil => simp [Memory.unlist, Memory.read]
  | cons x rest ih =>
    obtain ⟨k, v⟩ := x
    by_cases hk : k = a <;> by_cases hb : b = a <;> simp_all [Memory.unlist, Memory.read]
    grind

theorem Memory.read_enlist (m : Memory) (a b : Nat) (v : Byte) (h : m.read a = 0)
    (hm : ∀ x ∈ m, x.1 ≠ a) : (m.enlist a v).read b = if b = a then v else m.read b := by
  induction m with
  | nil => simp [Memory.enlist, Memory.read, eq_comm]
  | cons x rest ih =>
    obtain ⟨k, w⟩ := x
    have hk : k ≠ a := hm (k, w) (by simp)
    have hrest : Memory.read rest a = 0 := by simpa [Memory.read, hk] using h
    have ih' := ih hrest (fun x hx => hm x (by simp [hx]))
    by_cases hlt : a < k
    · simp only [Memory.enlist, hlt, if_true, Memory.read, eq_comm (a := a)]
    · simp only [Memory.enlist, hlt, if_false, Memory.read, ih']
      by_cases hb : b = a
      · simp [hb, hk]
      · simp [hb]

theorem Memory.ne_of_mem_unlist (m : Memory) (a : Nat) : ∀ x ∈ m.unlist a, x.1 ≠ a := by
  induction m with
  | nil => simp [Memory.unlist]
  | cons x rest ih =>
    obtain ⟨k, v⟩ := x
    intro x hx
    by_cases hk : k = a
    · exact ih x (by simpa [Memory.unlist, hk] using hx)
    · rw [Memory.unlist, if_neg hk] at hx
      rcases List.mem_cons.mp hx with rfl | hx
      · exact hk
      · exact ih x hx

/-- Read after write (R50, R51). -/
theorem Memory.read_write (m : Memory) (a b : Nat) (v : Byte) :
    (m.write a v).read b = if b = a then v else m.read b := by
  unfold Memory.write
  split
  · next h => simp [Memory.read_unlist, h]
  · rw [Memory.read_enlist _ _ _ _ (by simp [Memory.read_unlist]) (m.ne_of_mem_unlist a), Memory.read_unlist]
    split <;> rfl

theorem Memory.mem_of_mem_unlist {m : Memory} {a : Nat} {x : Host.Cell} (h : x ∈ m.unlist a) : x ∈ m := by
  induction m with
  | nil => simp [Memory.unlist] at h
  | cons y rest ih =>
    obtain ⟨k, v⟩ := y
    by_cases hk : k = a <;> simp_all [Memory.unlist]
    grind

theorem Memory.mem_enlist {m : Memory} {a : Nat} {v : Byte} {x : Host.Cell} (h : x ∈ m.enlist a v) :
    x = (a, v) ∨ x ∈ m := by
  induction m with
  | nil => simpa [Memory.enlist] using h
  | cons y rest ih =>
    obtain ⟨k, w⟩ := y
    by_cases hk : a < k <;> simp_all [Memory.enlist]
    grind

theorem Memory.pairwise_unlist {m : Memory} (a : Nat) (h : m.Pairwise (fun x y => x.1 < y.1)) :
    (m.unlist a).Pairwise (fun x y => x.1 < y.1) := by
  induction m with
  | nil => simp [Memory.unlist]
  | cons y rest ih =>
    obtain ⟨k, w⟩ := y
    rw [List.pairwise_cons] at h
    by_cases hk : k = a
    · simpa [Memory.unlist, hk] using ih h.2
    · simp only [Memory.unlist, hk, if_false, List.pairwise_cons]
      exact ⟨fun x hx => h.1 x (Memory.mem_of_mem_unlist hx), ih h.2⟩

theorem Memory.pairwise_enlist {m : Memory} {a : Nat} (v : Byte) (h : m.Pairwise (fun x y => x.1 < y.1))
    (hm : ∀ x ∈ m, x.1 ≠ a) : (m.enlist a v).Pairwise (fun x y => x.1 < y.1) := by
  induction m with
  | nil => simp [Memory.enlist]
  | cons y rest ih =>
    obtain ⟨k, w⟩ := y
    have hk : k ≠ a := hm (k, w) (by simp)
    rw [List.pairwise_cons] at h
    by_cases hlt : a < k
    · simp only [Memory.enlist, hlt, if_true, List.pairwise_cons]
      refine ⟨fun x hx => ?_, h⟩
      rcases List.mem_cons.mp hx with rfl | hx
      · exact hlt
      · exact Nat.lt_trans hlt (h.1 x hx)
    · simp only [Memory.enlist, hlt, if_false, List.pairwise_cons]
      refine ⟨fun x hx => ?_, ih h.2 (fun x hx => hm x (by simp [hx]))⟩
      rcases Memory.mem_enlist hx with rfl | hx
      · omega
      · exact h.1 x hx

/-- Every write keeps the canonical form. -/
theorem Memory.wf_write {m : Memory} (h : m.wf) {a : Nat} (ha : a < 65536) (v : Byte) : (m.write a v).wf := by
  unfold Memory.write
  split
  · exact ⟨Memory.pairwise_unlist a h.1, fun x hx => h.2 x (Memory.mem_of_mem_unlist hx)⟩
  · next hv =>
    refine ⟨Memory.pairwise_enlist v (Memory.pairwise_unlist a h.1) (m.ne_of_mem_unlist a), fun x hx => ?_⟩
    rcases Memory.mem_enlist hx with rfl | hx
    · exact ⟨ha, hv⟩
    · exact h.2 x (Memory.mem_of_mem_unlist hx)

@[simp] theorem Memory.wf_nil : Memory.wf [] := by simp [Memory.wf]

@[simp] theorem Memory.read_nil (a : Nat) : Memory.read [] a = 0 := rfl

/-! ### The data path of the state -/

theorem State.readByte_writeByte (s : State) (a b : Word) (v : Byte) :
    (s.writeByte a v).readByte b = if b = a then v else s.readByte b := by
  simp [State.readByte, State.writeByte, Memory.read_write, BitVec.toNat_inj]

@[simp] theorem State.readByte_writeByte_same (s : State) (a : Word) (v : Byte) :
    (s.writeByte a v).readByte a = v := by simp [State.readByte_writeByte]

theorem State.readByte_writeByte_of_ne (s : State) {a b : Word} (v : Byte) (h : b ≠ a) :
    (s.writeByte a v).readByte b = s.readByte b := by simp [State.readByte_writeByte, h]

theorem State.mem_wf_writeByte {s : State} (h : s.mem.wf) (a : Word) (v : Byte) : (s.writeByte a v).mem.wf :=
  Memory.wf_write h a.isLt v

/-- A 16-bit store changes its two cells and no other (R53). -/
theorem State.readByte_write16 (s : State) (a b : Word) (v : Word) :
    (s.write16 a v).readByte b =
      if b = a + 1 then hiByte v else if b = a then loByte v else s.readByte b := by
  simp [State.write16, State.readByte_writeByte]

theorem State.mem_wf_write16 {s : State} (h : s.mem.wf) (a v : Word) : (s.write16 a v).mem.wf :=
  State.mem_wf_writeByte (State.mem_wf_writeByte h _ _) _ _

end Sys2Proof.Machine
end

