-- ==== Sys2Proof/Laws/State.lean ====
section
/-! SUPPORT. One lemma for each field and each update of the state, so that no later proof unfolds a record update. The
lemmas of `writeReg`, `writePair` and `writeOperand` say which registers they write. -/

namespace Sys2Proof.Machine

/-! ### `setPc` -/

@[simp] theorem State.setPc_a (s : State) (v : Word) : (s.setPc v).a = s.a := rfl
@[simp] theorem State.setPc_b (s : State) (v : Word) : (s.setPc v).b = s.b := rfl
@[simp] theorem State.setPc_c (s : State) (v : Word) : (s.setPc v).c = s.c := rfl
@[simp] theorem State.setPc_d (s : State) (v : Word) : (s.setPc v).d = s.d := rfl
@[simp] theorem State.setPc_e (s : State) (v : Word) : (s.setPc v).e = s.e := rfl
@[simp] theorem State.setPc_h (s : State) (v : Word) : (s.setPc v).h = s.h := rfl
@[simp] theorem State.setPc_l (s : State) (v : Word) : (s.setPc v).l = s.l := rfl
@[simp] theorem State.setPc_f (s : State) (v : Word) : (s.setPc v).f = s.f := rfl
@[simp] theorem State.setPc_pc (s : State) (v : Word) : (s.setPc v).pc = v := rfl
@[simp] theorem State.setPc_sp (s : State) (v : Word) : (s.setPc v).sp = s.sp := rfl
@[simp] theorem State.setPc_mem (s : State) (v : Word) : (s.setPc v).mem = s.mem := rfl
@[simp] theorem State.setPc_trap (s : State) (v : Word) : (s.setPc v).trap = s.trap := rfl
@[simp] theorem State.setPc_cycles (s : State) (v : Word) : (s.setPc v).cycles = s.cycles := rfl
@[simp] theorem State.setPc_config (s : State) (v : Word) : (s.setPc v).config = s.config := rfl
@[simp] theorem State.setPc_free (s : State) (v : Word) : (s.setPc v).free = s.free := rfl
@[simp] theorem State.setPc_readReg (s : State) (v : Word) (r : Reg) :
    (s.setPc v).readReg r = s.readReg r := by cases r <;> rfl
@[simp] theorem State.setPc_readPair (s : State) (v : Word) (p : Pair) :
    (s.setPc v).readPair p = s.readPair p := by cases p <;> rfl
@[simp] theorem State.setPc_hl (s : State) (v : Word) : (s.setPc v).hl = s.hl := rfl
@[simp] theorem State.setPc_readByte (s : State) (v : Word) (k : Word) :
    (s.setPc v).readByte k = s.readByte k := rfl
@[simp] theorem State.setPc_read16 (s : State) (v : Word) (k : Word) :
    (s.setPc v).read16 k = s.read16 k := rfl
@[simp] theorem State.setPc_flag (s : State) (v : Word) (y : Flag) :
    (s.setPc v).flag y = s.flag y := rfl

/-! ### `setSp` -/

@[simp] theorem State.setSp_a (s : State) (v : Word) : (s.setSp v).a = s.a := rfl
@[simp] theorem State.setSp_b (s : State) (v : Word) : (s.setSp v).b = s.b := rfl
@[simp] theorem State.setSp_c (s : State) (v : Word) : (s.setSp v).c = s.c := rfl
@[simp] theorem State.setSp_d (s : State) (v : Word) : (s.setSp v).d = s.d := rfl
@[simp] theorem State.setSp_e (s : State) (v : Word) : (s.setSp v).e = s.e := rfl
@[simp] theorem State.setSp_h (s : State) (v : Word) : (s.setSp v).h = s.h := rfl
@[simp] theorem State.setSp_l (s : State) (v : Word) : (s.setSp v).l = s.l := rfl
@[simp] theorem State.setSp_f (s : State) (v : Word) : (s.setSp v).f = s.f := rfl
@[simp] theorem State.setSp_pc (s : State) (v : Word) : (s.setSp v).pc = s.pc := rfl
@[simp] theorem State.setSp_sp (s : State) (v : Word) : (s.setSp v).sp = v := rfl
@[simp] theorem State.setSp_mem (s : State) (v : Word) : (s.setSp v).mem = s.mem := rfl
@[simp] theorem State.setSp_trap (s : State) (v : Word) : (s.setSp v).trap = s.trap := rfl
@[simp] theorem State.setSp_cycles (s : State) (v : Word) : (s.setSp v).cycles = s.cycles := rfl
@[simp] theorem State.setSp_config (s : State) (v : Word) : (s.setSp v).config = s.config := rfl
@[simp] theorem State.setSp_free (s : State) (v : Word) : (s.setSp v).free = s.free := rfl
@[simp] theorem State.setSp_readReg (s : State) (v : Word) (r : Reg) :
    (s.setSp v).readReg r = s.readReg r := by cases r <;> rfl
@[simp] theorem State.setSp_hl (s : State) (v : Word) : (s.setSp v).hl = s.hl := rfl
@[simp] theorem State.setSp_readByte (s : State) (v : Word) (k : Word) :
    (s.setSp v).readByte k = s.readByte k := rfl
@[simp] theorem State.setSp_read16 (s : State) (v : Word) (k : Word) :
    (s.setSp v).read16 k = s.read16 k := rfl
@[simp] theorem State.setSp_flag (s : State) (v : Word) (y : Flag) :
    (s.setSp v).flag y = s.flag y := rfl

/-! ### `setF` -/

@[simp] theorem State.setF_a (s : State) (v : Byte) : (s.setF v).a = s.a := rfl
@[simp] theorem State.setF_b (s : State) (v : Byte) : (s.setF v).b = s.b := rfl
@[simp] theorem State.setF_c (s : State) (v : Byte) : (s.setF v).c = s.c := rfl
@[simp] theorem State.setF_d (s : State) (v : Byte) : (s.setF v).d = s.d := rfl
@[simp] theorem State.setF_e (s : State) (v : Byte) : (s.setF v).e = s.e := rfl
@[simp] theorem State.setF_h (s : State) (v : Byte) : (s.setF v).h = s.h := rfl
@[simp] theorem State.setF_l (s : State) (v : Byte) : (s.setF v).l = s.l := rfl
@[simp] theorem State.setF_f (s : State) (v : Byte) : (s.setF v).f = v := rfl
@[simp] theorem State.setF_pc (s : State) (v : Byte) : (s.setF v).pc = s.pc := rfl
@[simp] theorem State.setF_sp (s : State) (v : Byte) : (s.setF v).sp = s.sp := rfl
@[simp] theorem State.setF_mem (s : State) (v : Byte) : (s.setF v).mem = s.mem := rfl
@[simp] theorem State.setF_trap (s : State) (v : Byte) : (s.setF v).trap = s.trap := rfl
@[simp] theorem State.setF_cycles (s : State) (v : Byte) : (s.setF v).cycles = s.cycles := rfl
@[simp] theorem State.setF_config (s : State) (v : Byte) : (s.setF v).config = s.config := rfl
@[simp] theorem State.setF_free (s : State) (v : Byte) : (s.setF v).free = s.free := rfl
@[simp] theorem State.setF_readReg (s : State) (v : Byte) (r : Reg) :
    (s.setF v).readReg r = s.readReg r := by cases r <;> rfl
@[simp] theorem State.setF_readPair (s : State) (v : Byte) (p : Pair) :
    (s.setF v).readPair p = s.readPair p := by cases p <;> rfl
@[simp] theorem State.setF_hl (s : State) (v : Byte) : (s.setF v).hl = s.hl := rfl
@[simp] theorem State.setF_readByte (s : State) (v : Byte) (k : Word) :
    (s.setF v).readByte k = s.readByte k := rfl
@[simp] theorem State.setF_read16 (s : State) (v : Byte) (k : Word) :
    (s.setF v).read16 k = s.read16 k := rfl

/-! ### `setAF` -/

@[simp] theorem State.setAF_a (s : State) (x v : Byte) : (s.setAF x v).a = x := rfl
@[simp] theorem State.setAF_b (s : State) (x v : Byte) : (s.setAF x v).b = s.b := rfl
@[simp] theorem State.setAF_c (s : State) (x v : Byte) : (s.setAF x v).c = s.c := rfl
@[simp] theorem State.setAF_d (s : State) (x v : Byte) : (s.setAF x v).d = s.d := rfl
@[simp] theorem State.setAF_e (s : State) (x v : Byte) : (s.setAF x v).e = s.e := rfl
@[simp] theorem State.setAF_h (s : State) (x v : Byte) : (s.setAF x v).h = s.h := rfl
@[simp] theorem State.setAF_l (s : State) (x v : Byte) : (s.setAF x v).l = s.l := rfl
@[simp] theorem State.setAF_f (s : State) (x v : Byte) : (s.setAF x v).f = v := rfl
@[simp] theorem State.setAF_pc (s : State) (x v : Byte) : (s.setAF x v).pc = s.pc := rfl
@[simp] theorem State.setAF_sp (s : State) (x v : Byte) : (s.setAF x v).sp = s.sp := rfl
@[simp] theorem State.setAF_mem (s : State) (x v : Byte) : (s.setAF x v).mem = s.mem := rfl
@[simp] theorem State.setAF_trap (s : State) (x v : Byte) : (s.setAF x v).trap = s.trap := rfl
@[simp] theorem State.setAF_cycles (s : State) (x v : Byte) : (s.setAF x v).cycles = s.cycles := rfl
@[simp] theorem State.setAF_config (s : State) (x v : Byte) : (s.setAF x v).config = s.config := rfl
@[simp] theorem State.setAF_free (s : State) (x v : Byte) : (s.setAF x v).free = s.free := rfl
@[simp] theorem State.setAF_hl (s : State) (x v : Byte) : (s.setAF x v).hl = s.hl := rfl
@[simp] theorem State.setAF_readByte (s : State) (x v : Byte) (k : Word) :
    (s.setAF x v).readByte k = s.readByte k := rfl
@[simp] theorem State.setAF_read16 (s : State) (x v : Byte) (k : Word) :
    (s.setAF x v).read16 k = s.read16 k := rfl

/-! ### `writeByte` -/

@[simp] theorem State.writeByte_a (s : State) (addr : Word) (v : Byte) : (s.writeByte addr v).a = s.a := rfl
@[simp] theorem State.writeByte_b (s : State) (addr : Word) (v : Byte) : (s.writeByte addr v).b = s.b := rfl
@[simp] theorem State.writeByte_c (s : State) (addr : Word) (v : Byte) : (s.writeByte addr v).c = s.c := rfl
@[simp] theorem State.writeByte_d (s : State) (addr : Word) (v : Byte) : (s.writeByte addr v).d = s.d := rfl
@[simp] theorem State.writeByte_e (s : State) (addr : Word) (v : Byte) : (s.writeByte addr v).e = s.e := rfl
@[simp] theorem State.writeByte_h (s : State) (addr : Word) (v : Byte) : (s.writeByte addr v).h = s.h := rfl
@[simp] theorem State.writeByte_l (s : State) (addr : Word) (v : Byte) : (s.writeByte addr v).l = s.l := rfl
@[simp] theorem State.writeByte_f (s : State) (addr : Word) (v : Byte) : (s.writeByte addr v).f = s.f := rfl
@[simp] theorem State.writeByte_pc (s : State) (addr : Word) (v : Byte) : (s.writeByte addr v).pc = s.pc := rfl
@[simp] theorem State.writeByte_sp (s : State) (addr : Word) (v : Byte) : (s.writeByte addr v).sp = s.sp := rfl
@[simp] theorem State.writeByte_mem (s : State) (addr : Word) (v : Byte) : (s.writeByte addr v).mem = s.mem.write addr.toNat v := rfl
@[simp] theorem State.writeByte_trap (s : State) (addr : Word) (v : Byte) : (s.writeByte addr v).trap = s.trap := rfl
@[simp] theorem State.writeByte_cycles (s : State) (addr : Word) (v : Byte) : (s.writeByte addr v).cycles = s.cycles := rfl
@[simp] theorem State.writeByte_config (s : State) (addr : Word) (v : Byte) : (s.writeByte addr v).config = s.config := rfl
@[simp] theorem State.writeByte_free (s : State) (addr : Word) (v : Byte) : (s.writeByte addr v).free = s.free := rfl
@[simp] theorem State.writeByte_readReg (s : State) (addr : Word) (v : Byte) (r : Reg) :
    (s.writeByte addr v).readReg r = s.readReg r := by cases r <;> rfl
@[simp] theorem State.writeByte_readPair (s : State) (addr : Word) (v : Byte) (p : Pair) :
    (s.writeByte addr v).readPair p = s.readPair p := by cases p <;> rfl
@[simp] theorem State.writeByte_hl (s : State) (addr : Word) (v : Byte) : (s.writeByte addr v).hl = s.hl := rfl
@[simp] theorem State.writeByte_flag (s : State) (addr : Word) (v : Byte) (y : Flag) :
    (s.writeByte addr v).flag y = s.flag y := rfl

/-! ### `advancePc` -/

@[simp] theorem State.advancePc_a (s : State) (n : Nat) : (s.advancePc n).a = s.a := rfl
@[simp] theorem State.advancePc_b (s : State) (n : Nat) : (s.advancePc n).b = s.b := rfl
@[simp] theorem State.advancePc_c (s : State) (n : Nat) : (s.advancePc n).c = s.c := rfl
@[simp] theorem State.advancePc_d (s : State) (n : Nat) : (s.advancePc n).d = s.d := rfl
@[simp] theorem State.advancePc_e (s : State) (n : Nat) : (s.advancePc n).e = s.e := rfl
@[simp] theorem State.advancePc_h (s : State) (n : Nat) : (s.advancePc n).h = s.h := rfl
@[simp] theorem State.advancePc_l (s : State) (n : Nat) : (s.advancePc n).l = s.l := rfl
@[simp] theorem State.advancePc_f (s : State) (n : Nat) : (s.advancePc n).f = s.f := rfl
@[simp] theorem State.advancePc_pc (s : State) (n : Nat) : (s.advancePc n).pc = s.pc + BitVec.ofNat 16 n := rfl
@[simp] theorem State.advancePc_sp (s : State) (n : Nat) : (s.advancePc n).sp = s.sp := rfl
@[simp] theorem State.advancePc_mem (s : State) (n : Nat) : (s.advancePc n).mem = s.mem := rfl
@[simp] theorem State.advancePc_trap (s : State) (n : Nat) : (s.advancePc n).trap = s.trap := rfl
@[simp] theorem State.advancePc_cycles (s : State) (n : Nat) : (s.advancePc n).cycles = s.cycles := rfl
@[simp] theorem State.advancePc_config (s : State) (n : Nat) : (s.advancePc n).config = s.config := rfl
@[simp] theorem State.advancePc_free (s : State) (n : Nat) : (s.advancePc n).free = s.free := rfl
@[simp] theorem State.advancePc_readReg (s : State) (n : Nat) (r : Reg) :
    (s.advancePc n).readReg r = s.readReg r := by cases r <;> rfl
@[simp] theorem State.advancePc_readPair (s : State) (n : Nat) (p : Pair) :
    (s.advancePc n).readPair p = s.readPair p := by cases p <;> rfl
@[simp] theorem State.advancePc_hl (s : State) (n : Nat) : (s.advancePc n).hl = s.hl := rfl
@[simp] theorem State.advancePc_readByte (s : State) (n : Nat) (k : Word) :
    (s.advancePc n).readByte k = s.readByte k := rfl
@[simp] theorem State.advancePc_read16 (s : State) (n : Nat) (k : Word) :
    (s.advancePc n).read16 k = s.read16 k := rfl
@[simp] theorem State.advancePc_flag (s : State) (n : Nat) (y : Flag) :
    (s.advancePc n).flag y = s.flag y := rfl

/-! ### `returnCycles` -/

@[simp] theorem State.returnCycles_a (s : State) (n : Nat) : (s.returnCycles n).a = s.a := rfl
@[simp] theorem State.returnCycles_b (s : State) (n : Nat) : (s.returnCycles n).b = s.b := rfl
@[simp] theorem State.returnCycles_c (s : State) (n : Nat) : (s.returnCycles n).c = s.c := rfl
@[simp] theorem State.returnCycles_d (s : State) (n : Nat) : (s.returnCycles n).d = s.d := rfl
@[simp] theorem State.returnCycles_e (s : State) (n : Nat) : (s.returnCycles n).e = s.e := rfl
@[simp] theorem State.returnCycles_h (s : State) (n : Nat) : (s.returnCycles n).h = s.h := rfl
@[simp] theorem State.returnCycles_l (s : State) (n : Nat) : (s.returnCycles n).l = s.l := rfl
@[simp] theorem State.returnCycles_f (s : State) (n : Nat) : (s.returnCycles n).f = s.f := rfl
@[simp] theorem State.returnCycles_pc (s : State) (n : Nat) : (s.returnCycles n).pc = s.pc := rfl
@[simp] theorem State.returnCycles_sp (s : State) (n : Nat) : (s.returnCycles n).sp = s.sp := rfl
@[simp] theorem State.returnCycles_mem (s : State) (n : Nat) : (s.returnCycles n).mem = s.mem := rfl
@[simp] theorem State.returnCycles_trap (s : State) (n : Nat) : (s.returnCycles n).trap = s.trap := rfl
@[simp] theorem State.returnCycles_cycles (s : State) (n : Nat) : (s.returnCycles n).cycles = some n := rfl
@[simp] theorem State.returnCycles_config (s : State) (n : Nat) : (s.returnCycles n).config = s.config := rfl
@[simp] theorem State.returnCycles_free (s : State) (n : Nat) : (s.returnCycles n).free = s.free := rfl
@[simp] theorem State.returnCycles_readReg (s : State) (n : Nat) (r : Reg) :
    (s.returnCycles n).readReg r = s.readReg r := by cases r <;> rfl
@[simp] theorem State.returnCycles_readPair (s : State) (n : Nat) (p : Pair) :
    (s.returnCycles n).readPair p = s.readPair p := by cases p <;> rfl
@[simp] theorem State.returnCycles_hl (s : State) (n : Nat) : (s.returnCycles n).hl = s.hl := rfl
@[simp] theorem State.returnCycles_readByte (s : State) (n : Nat) (k : Word) :
    (s.returnCycles n).readByte k = s.readByte k := rfl
@[simp] theorem State.returnCycles_read16 (s : State) (n : Nat) (k : Word) :
    (s.returnCycles n).read16 k = s.read16 k := rfl
@[simp] theorem State.returnCycles_flag (s : State) (n : Nat) (y : Flag) :
    (s.returnCycles n).flag y = s.flag y := rfl

/-! ### `useFree` -/

@[simp] theorem State.useFree_a (s : State) : s.useFree.a = s.a := rfl
@[simp] theorem State.useFree_b (s : State) : s.useFree.b = s.b := rfl
@[simp] theorem State.useFree_c (s : State) : s.useFree.c = s.c := rfl
@[simp] theorem State.useFree_d (s : State) : s.useFree.d = s.d := rfl
@[simp] theorem State.useFree_e (s : State) : s.useFree.e = s.e := rfl
@[simp] theorem State.useFree_h (s : State) : s.useFree.h = s.h := rfl
@[simp] theorem State.useFree_l (s : State) : s.useFree.l = s.l := rfl
@[simp] theorem State.useFree_f (s : State) : s.useFree.f = s.f := rfl
@[simp] theorem State.useFree_pc (s : State) : s.useFree.pc = s.pc := rfl
@[simp] theorem State.useFree_sp (s : State) : s.useFree.sp = s.sp := rfl
@[simp] theorem State.useFree_mem (s : State) : s.useFree.mem = s.mem := rfl
@[simp] theorem State.useFree_trap (s : State) : s.useFree.trap = s.trap := rfl
@[simp] theorem State.useFree_cycles (s : State) : s.useFree.cycles = s.cycles := rfl
@[simp] theorem State.useFree_config (s : State) : s.useFree.config = s.config := rfl
@[simp] theorem State.useFree_free (s : State) : s.useFree.free = s.free + 1 := rfl
@[simp] theorem State.useFree_readReg (s : State) (r : Reg) :
    s.useFree.readReg r = s.readReg r := by cases r <;> rfl
@[simp] theorem State.useFree_readPair (s : State) (p : Pair) :
    s.useFree.readPair p = s.readPair p := by cases p <;> rfl
@[simp] theorem State.useFree_hl (s : State) : s.useFree.hl = s.hl := rfl
@[simp] theorem State.useFree_readByte (s : State) (k : Word) :
    s.useFree.readByte k = s.readByte k := rfl
@[simp] theorem State.useFree_read16 (s : State) (k : Word) :
    s.useFree.read16 k = s.read16 k := rfl
@[simp] theorem State.useFree_flag (s : State) (y : Flag) :
    s.useFree.flag y = s.flag y := rfl

/-! ### `takeTrap` -/

@[simp] theorem State.takeTrap_a (s : State) (op : Byte) : (s.takeTrap op).a = s.a := rfl
@[simp] theorem State.takeTrap_b (s : State) (op : Byte) : (s.takeTrap op).b = s.b := rfl
@[simp] theorem State.takeTrap_c (s : State) (op : Byte) : (s.takeTrap op).c = s.c := rfl
@[simp] theorem State.takeTrap_d (s : State) (op : Byte) : (s.takeTrap op).d = s.d := rfl
@[simp] theorem State.takeTrap_e (s : State) (op : Byte) : (s.takeTrap op).e = s.e := rfl
@[simp] theorem State.takeTrap_h (s : State) (op : Byte) : (s.takeTrap op).h = s.h := rfl
@[simp] theorem State.takeTrap_l (s : State) (op : Byte) : (s.takeTrap op).l = s.l := rfl
@[simp] theorem State.takeTrap_f (s : State) (op : Byte) : (s.takeTrap op).f = s.f := rfl
@[simp] theorem State.takeTrap_pc (s : State) (op : Byte) : (s.takeTrap op).pc = s.pc + 1 := rfl
@[simp] theorem State.takeTrap_sp (s : State) (op : Byte) : (s.takeTrap op).sp = s.sp := rfl
@[simp] theorem State.takeTrap_mem (s : State) (op : Byte) : (s.takeTrap op).mem = s.mem := rfl
@[simp] theorem State.takeTrap_trap (s : State) (op : Byte) : (s.takeTrap op).trap = .trapped s.pc op := rfl
@[simp] theorem State.takeTrap_cycles (s : State) (op : Byte) : (s.takeTrap op).cycles = none := rfl
@[simp] theorem State.takeTrap_config (s : State) (op : Byte) : (s.takeTrap op).config = s.config := rfl
@[simp] theorem State.takeTrap_free (s : State) (op : Byte) : (s.takeTrap op).free = s.free := rfl
@[simp] theorem State.takeTrap_readReg (s : State) (op : Byte) (r : Reg) :
    (s.takeTrap op).readReg r = s.readReg r := by cases r <;> rfl
@[simp] theorem State.takeTrap_readPair (s : State) (op : Byte) (p : Pair) :
    (s.takeTrap op).readPair p = s.readPair p := by cases p <;> rfl
@[simp] theorem State.takeTrap_hl (s : State) (op : Byte) : (s.takeTrap op).hl = s.hl := rfl
@[simp] theorem State.takeTrap_readByte (s : State) (op : Byte) (k : Word) :
    (s.takeTrap op).readByte k = s.readByte k := rfl
@[simp] theorem State.takeTrap_read16 (s : State) (op : Byte) (k : Word) :
    (s.takeTrap op).read16 k = s.read16 k := rfl
@[simp] theorem State.takeTrap_flag (s : State) (op : Byte) (y : Flag) :
    (s.takeTrap op).flag y = s.flag y := rfl

/-! ### `pushByte` -/

@[simp] theorem State.pushByte_a (s : State) (v : Byte) : (s.pushByte v).a = s.a := rfl
@[simp] theorem State.pushByte_b (s : State) (v : Byte) : (s.pushByte v).b = s.b := rfl
@[simp] theorem State.pushByte_c (s : State) (v : Byte) : (s.pushByte v).c = s.c := rfl
@[simp] theorem State.pushByte_d (s : State) (v : Byte) : (s.pushByte v).d = s.d := rfl
@[simp] theorem State.pushByte_e (s : State) (v : Byte) : (s.pushByte v).e = s.e := rfl
@[simp] theorem State.pushByte_h (s : State) (v : Byte) : (s.pushByte v).h = s.h := rfl
@[simp] theorem State.pushByte_l (s : State) (v : Byte) : (s.pushByte v).l = s.l := rfl
@[simp] theorem State.pushByte_f (s : State) (v : Byte) : (s.pushByte v).f = s.f := rfl
@[simp] theorem State.pushByte_pc (s : State) (v : Byte) : (s.pushByte v).pc = s.pc := rfl
@[simp] theorem State.pushByte_sp (s : State) (v : Byte) : (s.pushByte v).sp = s.sp - 1 := rfl
@[simp] theorem State.pushByte_mem (s : State) (v : Byte) : (s.pushByte v).mem = s.mem.write (s.sp - 1).toNat v := rfl
@[simp] theorem State.pushByte_trap (s : State) (v : Byte) : (s.pushByte v).trap = s.trap := rfl
@[simp] theorem State.pushByte_cycles (s : State) (v : Byte) : (s.pushByte v).cycles = s.cycles := rfl
@[simp] theorem State.pushByte_config (s : State) (v : Byte) : (s.pushByte v).config = s.config := rfl
@[simp] theorem State.pushByte_free (s : State) (v : Byte) : (s.pushByte v).free = s.free := rfl
@[simp] theorem State.pushByte_readReg (s : State) (v : Byte) (r : Reg) :
    (s.pushByte v).readReg r = s.readReg r := by cases r <;> rfl
@[simp] theorem State.pushByte_hl (s : State) (v : Byte) : (s.pushByte v).hl = s.hl := rfl
@[simp] theorem State.pushByte_flag (s : State) (v : Byte) (y : Flag) :
    (s.pushByte v).flag y = s.flag y := rfl

/-! ### `setFlag` -/

@[simp] theorem State.setFlag_a (s : State) (x : Flag) (v : Bool) : (s.setFlag x v).a = s.a := rfl
@[simp] theorem State.setFlag_b (s : State) (x : Flag) (v : Bool) : (s.setFlag x v).b = s.b := rfl
@[simp] theorem State.setFlag_c (s : State) (x : Flag) (v : Bool) : (s.setFlag x v).c = s.c := rfl
@[simp] theorem State.setFlag_d (s : State) (x : Flag) (v : Bool) : (s.setFlag x v).d = s.d := rfl
@[simp] theorem State.setFlag_e (s : State) (x : Flag) (v : Bool) : (s.setFlag x v).e = s.e := rfl
@[simp] theorem State.setFlag_h (s : State) (x : Flag) (v : Bool) : (s.setFlag x v).h = s.h := rfl
@[simp] theorem State.setFlag_l (s : State) (x : Flag) (v : Bool) : (s.setFlag x v).l = s.l := rfl
@[simp] theorem State.setFlag_f (s : State) (x : Flag) (v : Bool) : (s.setFlag x v).f = Machine.setFlag s.f x v := rfl
@[simp] theorem State.setFlag_pc (s : State) (x : Flag) (v : Bool) : (s.setFlag x v).pc = s.pc := rfl
@[simp] theorem State.setFlag_sp (s : State) (x : Flag) (v : Bool) : (s.setFlag x v).sp = s.sp := rfl
@[simp] theorem State.setFlag_mem (s : State) (x : Flag) (v : Bool) : (s.setFlag x v).mem = s.mem := rfl
@[simp] theorem State.setFlag_trap (s : State) (x : Flag) (v : Bool) : (s.setFlag x v).trap = s.trap := rfl
@[simp] theorem State.setFlag_cycles (s : State) (x : Flag) (v : Bool) : (s.setFlag x v).cycles = s.cycles := rfl
@[simp] theorem State.setFlag_config (s : State) (x : Flag) (v : Bool) : (s.setFlag x v).config = s.config := rfl
@[simp] theorem State.setFlag_free (s : State) (x : Flag) (v : Bool) : (s.setFlag x v).free = s.free := rfl
@[simp] theorem State.setFlag_readReg (s : State) (x : Flag) (v : Bool) (r : Reg) :
    (s.setFlag x v).readReg r = s.readReg r := by cases r <;> rfl
@[simp] theorem State.setFlag_readPair (s : State) (x : Flag) (v : Bool) (p : Pair) :
    (s.setFlag x v).readPair p = s.readPair p := by cases p <;> rfl
@[simp] theorem State.setFlag_hl (s : State) (x : Flag) (v : Bool) : (s.setFlag x v).hl = s.hl := rfl
@[simp] theorem State.setFlag_readByte (s : State) (x : Flag) (v : Bool) (k : Word) :
    (s.setFlag x v).readByte k = s.readByte k := rfl
@[simp] theorem State.setFlag_read16 (s : State) (x : Flag) (v : Bool) (k : Word) :
    (s.setFlag x v).read16 k = s.read16 k := rfl

/-! ### `write16` -/

@[simp] theorem State.write16_a (s : State) (addr v : Word) : (s.write16 addr v).a = s.a := rfl
@[simp] theorem State.write16_b (s : State) (addr v : Word) : (s.write16 addr v).b = s.b := rfl
@[simp] theorem State.write16_c (s : State) (addr v : Word) : (s.write16 addr v).c = s.c := rfl
@[simp] theorem State.write16_d (s : State) (addr v : Word) : (s.write16 addr v).d = s.d := rfl
@[simp] theorem State.write16_e (s : State) (addr v : Word) : (s.write16 addr v).e = s.e := rfl
@[simp] theorem State.write16_h (s : State) (addr v : Word) : (s.write16 addr v).h = s.h := rfl
@[simp] theorem State.write16_l (s : State) (addr v : Word) : (s.write16 addr v).l = s.l := rfl
@[simp] theorem State.write16_f (s : State) (addr v : Word) : (s.write16 addr v).f = s.f := rfl
@[simp] theorem State.write16_pc (s : State) (addr v : Word) : (s.write16 addr v).pc = s.pc := rfl
@[simp] theorem State.write16_sp (s : State) (addr v : Word) : (s.write16 addr v).sp = s.sp := rfl
@[simp] theorem State.write16_trap (s : State) (addr v : Word) : (s.write16 addr v).trap = s.trap := rfl
@[simp] theorem State.write16_cycles (s : State) (addr v : Word) : (s.write16 addr v).cycles = s.cycles := rfl
@[simp] theorem State.write16_config (s : State) (addr v : Word) : (s.write16 addr v).config = s.config := rfl
@[simp] theorem State.write16_free (s : State) (addr v : Word) : (s.write16 addr v).free = s.free := rfl
@[simp] theorem State.write16_readReg (s : State) (addr v : Word) (r : Reg) :
    (s.write16 addr v).readReg r = s.readReg r := by cases r <;> rfl

/-! ### `writeReg`, `writePair`, `writeOperand` -/

@[simp] theorem State.writeReg_f (s : State) (r : Reg) (v : Byte) : (s.writeReg r v).f = s.f := by
  cases r <;> rfl
@[simp] theorem State.writeReg_pc (s : State) (r : Reg) (v : Byte) : (s.writeReg r v).pc = s.pc := by
  cases r <;> rfl
@[simp] theorem State.writeReg_sp (s : State) (r : Reg) (v : Byte) : (s.writeReg r v).sp = s.sp := by
  cases r <;> rfl
@[simp] theorem State.writeReg_mem (s : State) (r : Reg) (v : Byte) : (s.writeReg r v).mem = s.mem := by
  cases r <;> rfl
@[simp] theorem State.writeReg_trap (s : State) (r : Reg) (v : Byte) : (s.writeReg r v).trap = s.trap := by
  cases r <;> rfl
@[simp] theorem State.writeReg_cycles (s : State) (r : Reg) (v : Byte) : (s.writeReg r v).cycles = s.cycles := by
  cases r <;> rfl
@[simp] theorem State.writeReg_config (s : State) (r : Reg) (v : Byte) : (s.writeReg r v).config = s.config := by
  cases r <;> rfl
@[simp] theorem State.writeReg_free (s : State) (r : Reg) (v : Byte) : (s.writeReg r v).free = s.free := by
  cases r <;> rfl
@[simp] theorem State.writeReg_readByte (s : State) (r : Reg) (v : Byte) (k : Word) :
    (s.writeReg r v).readByte k = s.readByte k := by cases r <;> rfl
@[simp] theorem State.writeReg_flag (s : State) (r : Reg) (v : Byte) (y : Flag) :
    (s.writeReg r v).flag y = s.flag y := by cases r <;> rfl
/-- R20: every register is storage of its own. -/
theorem State.readReg_writeReg (s : State) (r r' : Reg) (v : Byte) :
    (s.writeReg r v).readReg r' = if r' = r then v else s.readReg r' := by cases r <;> cases r' <;> rfl
@[simp] theorem State.readReg_writeReg_same (s : State) (r : Reg) (v : Byte) :
    (s.writeReg r v).readReg r = v := by cases r <;> rfl
@[simp] theorem State.writeReg_a_a (s : State) (v : Byte) : (s.writeReg .a v).a = v := rfl

@[simp] theorem State.writePair_f (s : State) (p : Pair) (v : Word) : (s.writePair p v).f = s.f := by
  cases p <;> rfl
@[simp] theorem State.writePair_pc (s : State) (p : Pair) (v : Word) : (s.writePair p v).pc = s.pc := by
  cases p <;> rfl
@[simp] theorem State.writePair_mem (s : State) (p : Pair) (v : Word) : (s.writePair p v).mem = s.mem := by
  cases p <;> rfl
@[simp] theorem State.writePair_trap (s : State) (p : Pair) (v : Word) : (s.writePair p v).trap = s.trap := by
  cases p <;> rfl
@[simp] theorem State.writePair_cycles (s : State) (p : Pair) (v : Word) : (s.writePair p v).cycles = s.cycles := by
  cases p <;> rfl
@[simp] theorem State.writePair_config (s : State) (p : Pair) (v : Word) : (s.writePair p v).config = s.config := by
  cases p <;> rfl
@[simp] theorem State.writePair_free (s : State) (p : Pair) (v : Word) : (s.writePair p v).free = s.free := by
  cases p <;> rfl
@[simp] theorem State.writePair_a (s : State) (p : Pair) (v : Word) : (s.writePair p v).a = s.a := by cases p <;> rfl
@[simp] theorem State.writePair_readByte (s : State) (p : Pair) (v : Word) (k : Word) :
    (s.writePair p v).readByte k = s.readByte k := by cases p <;> rfl
@[simp] theorem State.writePair_flag (s : State) (p : Pair) (v : Word) (y : Flag) :
    (s.writePair p v).flag y = s.flag y := by cases p <;> rfl

/-- R9: `{H, L}` is `H * 256 + L`. -/
theorem joinBytes_toNat (hi lo : Byte) : (joinBytes hi lo).toNat = hi.toNat * 256 + lo.toNat := by
  simp only [joinBytes, BitVec.toNat_append]
  rw [← Nat.shiftLeft_add_eq_or_of_lt lo.isLt, Nat.shiftLeft_eq]

theorem hiByte_toNat (v : Word) : (hiByte v).toNat = v.toNat / 256 := by
  have := v.isLt
  simp only [hiByte, BitVec.extractLsb'_toNat, Nat.shiftRight_eq_div_pow]
  omega

theorem loByte_toNat (v : Word) : (loByte v).toNat = v.toNat % 256 := by
  simp [loByte, BitVec.extractLsb'_toNat]

@[simp] theorem joinBytes_hi_lo (v : Word) : joinBytes (hiByte v) (loByte v) = v := by
  apply BitVec.eq_of_toNat_eq
  rw [joinBytes_toNat, hiByte_toNat, loByte_toNat]
  omega

@[simp] theorem hiByte_joinBytes (hi lo : Byte) : hiByte (joinBytes hi lo) = hi := by
  apply BitVec.eq_of_toNat_eq
  have := lo.isLt
  rw [hiByte_toNat, joinBytes_toNat]
  omega

@[simp] theorem loByte_joinBytes (hi lo : Byte) : loByte (joinBytes hi lo) = lo := by
  apply BitVec.eq_of_toNat_eq
  have := lo.isLt
  rw [loByte_toNat, joinBytes_toNat]
  omega

/-- R24, R25: a pair reads back as written. -/
@[simp] theorem State.readPair_writePair_same (s : State) (p : Pair) (v : Word) :
    (s.writePair p v).readPair p = v := by
  cases p <;> simp [State.writePair, State.readPair]

/-- R24: a pair write writes its two registers and no other. -/
theorem State.readReg_writePair_of_notMem (s : State) (p : Pair) (v : Word) (r : Reg) (h : r ∉ pairRegs p) :
    (s.writePair p v).readReg r = s.readReg r := by
  cases p <;> cases r <;> first | rfl | simp [pairRegs] at h

theorem State.sp_writePair (s : State) (p : Pair) (v : Word) :
    (s.writePair p v).sp = if p = .sp then v else s.sp := by cases p <;> rfl

@[simp] theorem State.writeOperand_f (s : State) (x : Operand) (v : Byte) : (s.writeOperand x v).f = s.f := by
  cases x <;> simp [State.writeOperand]
@[simp] theorem State.writeOperand_pc (s : State) (x : Operand) (v : Byte) : (s.writeOperand x v).pc = s.pc := by
  cases x <;> simp [State.writeOperand]
@[simp] theorem State.writeOperand_sp (s : State) (x : Operand) (v : Byte) : (s.writeOperand x v).sp = s.sp := by
  cases x <;> simp [State.writeOperand]
@[simp] theorem State.writeOperand_trap (s : State) (x : Operand) (v : Byte) : (s.writeOperand x v).trap = s.trap := by
  cases x <;> simp [State.writeOperand]
@[simp] theorem State.writeOperand_cycles (s : State) (x : Operand) (v : Byte) : (s.writeOperand x v).cycles = s.cycles := by
  cases x <;> simp [State.writeOperand]
@[simp] theorem State.writeOperand_config (s : State) (x : Operand) (v : Byte) : (s.writeOperand x v).config = s.config := by
  cases x <;> simp [State.writeOperand]
@[simp] theorem State.writeOperand_free (s : State) (x : Operand) (v : Byte) : (s.writeOperand x v).free = s.free := by
  cases x <;> simp [State.writeOperand]

/-! ### Register A and the pair HL by their own fields -/

@[simp] theorem State.readReg_a (s : State) : s.readReg .a = s.a := rfl

@[simp] theorem State.readPair_hl (s : State) : s.readPair .hl = s.hl := rfl

@[simp] theorem State.hl_writePair_hl (s : State) (v : Word) : (s.writePair .hl v).hl = v :=
  State.readPair_writePair_same s .hl v

/-- The advance of `pc` changes no operand (R13). -/
@[simp] theorem State.advancePc_readSource (s : State) (n : Nat) (x : Source) :
    (s.advancePc n).readSource x = s.readSource x := by cases x <;> simp [State.readSource]

/-- Every operation keeps the canonical form of memory. -/
theorem State.mem_wf_writeOperand {s : State} (h : s.mem.wf) (x : Operand) (v : Byte) :
    (s.writeOperand x v).mem.wf := by
  cases x
  · simpa [State.writeOperand] using h
  · exact State.mem_wf_writeByte h _ _

end Sys2Proof.Machine
end

