-- ==== Sys2Proof/Laws/PerInstr.lean ====
section
/-! SUPPORT. The family OpcodeDecodes: for each instruction of the full set, the decoder's decision on its opcode and its
immediates gives the instruction, and the opcode gives its length (R76, R78). One lemma for each constructor. -/

namespace Sys2Proof.Laws.OpcodeDecodes

/-- The immediate bytes with zeros after them, as the decision takes them. -/
def imm (i : Instr) (k : Nat) : Byte := i.immediates.getD k 0

def Statement (i : Instr) : Prop :=
  WellFormed Machine.defaultConfig i = true →
    decodeOpcode i.opcode (imm i 0) (imm i 1) = i ∧ opcodeLength i.opcode = i.length

theorem movBB : Statement .movBB := fun _ => ⟨rfl, rfl⟩
theorem movBC : Statement .movBC := fun _ => ⟨rfl, rfl⟩
theorem movBD : Statement .movBD := fun _ => ⟨rfl, rfl⟩
theorem movBE : Statement .movBE := fun _ => ⟨rfl, rfl⟩
theorem movBH : Statement .movBH := fun _ => ⟨rfl, rfl⟩
theorem movBL : Statement .movBL := fun _ => ⟨rfl, rfl⟩
theorem movBA : Statement .movBA := fun _ => ⟨rfl, rfl⟩
theorem movCB : Statement .movCB := fun _ => ⟨rfl, rfl⟩
theorem movCC : Statement .movCC := fun _ => ⟨rfl, rfl⟩
theorem movCD : Statement .movCD := fun _ => ⟨rfl, rfl⟩
theorem movCE : Statement .movCE := fun _ => ⟨rfl, rfl⟩
theorem movCH : Statement .movCH := fun _ => ⟨rfl, rfl⟩
theorem movCL : Statement .movCL := fun _ => ⟨rfl, rfl⟩
theorem movCA : Statement .movCA := fun _ => ⟨rfl, rfl⟩
theorem movDB : Statement .movDB := fun _ => ⟨rfl, rfl⟩
theorem movDC : Statement .movDC := fun _ => ⟨rfl, rfl⟩
theorem movDD : Statement .movDD := fun _ => ⟨rfl, rfl⟩
theorem movDE : Statement .movDE := fun _ => ⟨rfl, rfl⟩
theorem movDH : Statement .movDH := fun _ => ⟨rfl, rfl⟩
theorem movDL : Statement .movDL := fun _ => ⟨rfl, rfl⟩
theorem movDA : Statement .movDA := fun _ => ⟨rfl, rfl⟩
theorem movEB : Statement .movEB := fun _ => ⟨rfl, rfl⟩
theorem movEC : Statement .movEC := fun _ => ⟨rfl, rfl⟩
theorem movED : Statement .movED := fun _ => ⟨rfl, rfl⟩
theorem movEE : Statement .movEE := fun _ => ⟨rfl, rfl⟩
theorem movEH : Statement .movEH := fun _ => ⟨rfl, rfl⟩
theorem movEL : Statement .movEL := fun _ => ⟨rfl, rfl⟩
theorem movEA : Statement .movEA := fun _ => ⟨rfl, rfl⟩
theorem movHB : Statement .movHB := fun _ => ⟨rfl, rfl⟩
theorem movHC : Statement .movHC := fun _ => ⟨rfl, rfl⟩
theorem movHD : Statement .movHD := fun _ => ⟨rfl, rfl⟩
theorem movHE : Statement .movHE := fun _ => ⟨rfl, rfl⟩
theorem movHH : Statement .movHH := fun _ => ⟨rfl, rfl⟩
theorem movHL : Statement .movHL := fun _ => ⟨rfl, rfl⟩
theorem movHA : Statement .movHA := fun _ => ⟨rfl, rfl⟩
theorem movLB : Statement .movLB := fun _ => ⟨rfl, rfl⟩
theorem movLC : Statement .movLC := fun _ => ⟨rfl, rfl⟩
theorem movLD : Statement .movLD := fun _ => ⟨rfl, rfl⟩
theorem movLE : Statement .movLE := fun _ => ⟨rfl, rfl⟩
theorem movLH : Statement .movLH := fun _ => ⟨rfl, rfl⟩
theorem movLL : Statement .movLL := fun _ => ⟨rfl, rfl⟩
theorem movLA : Statement .movLA := fun _ => ⟨rfl, rfl⟩
theorem movAB : Statement .movAB := fun _ => ⟨rfl, rfl⟩
theorem movAC : Statement .movAC := fun _ => ⟨rfl, rfl⟩
theorem movAD : Statement .movAD := fun _ => ⟨rfl, rfl⟩
theorem movAE : Statement .movAE := fun _ => ⟨rfl, rfl⟩
theorem movAH : Statement .movAH := fun _ => ⟨rfl, rfl⟩
theorem movAL : Statement .movAL := fun _ => ⟨rfl, rfl⟩
theorem movAA : Statement .movAA := fun _ => ⟨rfl, rfl⟩
theorem movBM : Statement .movBM := fun _ => ⟨rfl, rfl⟩
theorem movCM : Statement .movCM := fun _ => ⟨rfl, rfl⟩
theorem movDM : Statement .movDM := fun _ => ⟨rfl, rfl⟩
theorem movEM : Statement .movEM := fun _ => ⟨rfl, rfl⟩
theorem movHM : Statement .movHM := fun _ => ⟨rfl, rfl⟩
theorem movLM : Statement .movLM := fun _ => ⟨rfl, rfl⟩
theorem movAM : Statement .movAM := fun _ => ⟨rfl, rfl⟩
theorem movMB : Statement .movMB := fun _ => ⟨rfl, rfl⟩
theorem movMC : Statement .movMC := fun _ => ⟨rfl, rfl⟩
theorem movMD : Statement .movMD := fun _ => ⟨rfl, rfl⟩
theorem movME : Statement .movME := fun _ => ⟨rfl, rfl⟩
theorem movMH : Statement .movMH := fun _ => ⟨rfl, rfl⟩
theorem movML : Statement .movML := fun _ => ⟨rfl, rfl⟩
theorem movMA : Statement .movMA := fun _ => ⟨rfl, rfl⟩
theorem mviB (x : Byte) : Statement (.mviB x) := fun _ =>
  ⟨(rfl : decodeOpcode 0x06#8 x 0 = .mviB x), (rfl : opcodeLength 0x06#8 = 2)⟩
theorem mviC (x : Byte) : Statement (.mviC x) := fun _ =>
  ⟨(rfl : decodeOpcode 0x0E#8 x 0 = .mviC x), (rfl : opcodeLength 0x0E#8 = 2)⟩
theorem mviD (x : Byte) : Statement (.mviD x) := fun _ =>
  ⟨(rfl : decodeOpcode 0x16#8 x 0 = .mviD x), (rfl : opcodeLength 0x16#8 = 2)⟩
theorem mviE (x : Byte) : Statement (.mviE x) := fun _ =>
  ⟨(rfl : decodeOpcode 0x1E#8 x 0 = .mviE x), (rfl : opcodeLength 0x1E#8 = 2)⟩
theorem mviH (x : Byte) : Statement (.mviH x) := fun _ =>
  ⟨(rfl : decodeOpcode 0x26#8 x 0 = .mviH x), (rfl : opcodeLength 0x26#8 = 2)⟩
theorem mviL (x : Byte) : Statement (.mviL x) := fun _ =>
  ⟨(rfl : decodeOpcode 0x2E#8 x 0 = .mviL x), (rfl : opcodeLength 0x2E#8 = 2)⟩
theorem mviM (x : Byte) : Statement (.mviM x) := fun _ =>
  ⟨(rfl : decodeOpcode 0x36#8 x 0 = .mviM x), (rfl : opcodeLength 0x36#8 = 2)⟩
theorem mviA (x : Byte) : Statement (.mviA x) := fun _ =>
  ⟨(rfl : decodeOpcode 0x3E#8 x 0 = .mviA x), (rfl : opcodeLength 0x3E#8 = 2)⟩
theorem lxiB (w : Word) : Statement (.lxiB w) := fun _ =>
  ⟨(rfl : decodeOpcode 0x01#8 (loByte w) (hiByte w) = .lxiB (joinBytes (hiByte w) (loByte w))).trans
    (congrArg Instr.lxiB (Machine.joinBytes_hi_lo w)), (rfl : opcodeLength 0x01#8 = 3)⟩
theorem lxiD (w : Word) : Statement (.lxiD w) := fun _ =>
  ⟨(rfl : decodeOpcode 0x11#8 (loByte w) (hiByte w) = .lxiD (joinBytes (hiByte w) (loByte w))).trans
    (congrArg Instr.lxiD (Machine.joinBytes_hi_lo w)), (rfl : opcodeLength 0x11#8 = 3)⟩
theorem lxiH (w : Word) : Statement (.lxiH w) := fun _ =>
  ⟨(rfl : decodeOpcode 0x21#8 (loByte w) (hiByte w) = .lxiH (joinBytes (hiByte w) (loByte w))).trans
    (congrArg Instr.lxiH (Machine.joinBytes_hi_lo w)), (rfl : opcodeLength 0x21#8 = 3)⟩
theorem lxiSP (w : Word) : Statement (.lxiSP w) := fun _ =>
  ⟨(rfl : decodeOpcode 0x31#8 (loByte w) (hiByte w) = .lxiSP (joinBytes (hiByte w) (loByte w))).trans
    (congrArg Instr.lxiSP (Machine.joinBytes_hi_lo w)), (rfl : opcodeLength 0x31#8 = 3)⟩
theorem staxB : Statement .staxB := fun _ => ⟨rfl, rfl⟩
theorem ldaxB : Statement .ldaxB := fun _ => ⟨rfl, rfl⟩
theorem staxD : Statement .staxD := fun _ => ⟨rfl, rfl⟩
theorem ldaxD : Statement .ldaxD := fun _ => ⟨rfl, rfl⟩
theorem sta (w : Word) : Statement (.sta w) := fun _ =>
  ⟨(rfl : decodeOpcode 0x32#8 (loByte w) (hiByte w) = .sta (joinBytes (hiByte w) (loByte w))).trans
    (congrArg Instr.sta (Machine.joinBytes_hi_lo w)), (rfl : opcodeLength 0x32#8 = 3)⟩
theorem lda (w : Word) : Statement (.lda w) := fun _ =>
  ⟨(rfl : decodeOpcode 0x3A#8 (loByte w) (hiByte w) = .lda (joinBytes (hiByte w) (loByte w))).trans
    (congrArg Instr.lda (Machine.joinBytes_hi_lo w)), (rfl : opcodeLength 0x3A#8 = 3)⟩
theorem shld (w : Word) : Statement (.shld w) := fun _ =>
  ⟨(rfl : decodeOpcode 0x22#8 (loByte w) (hiByte w) = .shld (joinBytes (hiByte w) (loByte w))).trans
    (congrArg Instr.shld (Machine.joinBytes_hi_lo w)), (rfl : opcodeLength 0x22#8 = 3)⟩
theorem lhld (w : Word) : Statement (.lhld w) := fun _ =>
  ⟨(rfl : decodeOpcode 0x2A#8 (loByte w) (hiByte w) = .lhld (joinBytes (hiByte w) (loByte w))).trans
    (congrArg Instr.lhld (Machine.joinBytes_hi_lo w)), (rfl : opcodeLength 0x2A#8 = 3)⟩
theorem xchg : Statement .xchg := fun _ => ⟨rfl, rfl⟩
theorem addB : Statement .addB := fun _ => ⟨rfl, rfl⟩
theorem addC : Statement .addC := fun _ => ⟨rfl, rfl⟩
theorem addD : Statement .addD := fun _ => ⟨rfl, rfl⟩
theorem addE : Statement .addE := fun _ => ⟨rfl, rfl⟩
theorem addH : Statement .addH := fun _ => ⟨rfl, rfl⟩
theorem addL : Statement .addL := fun _ => ⟨rfl, rfl⟩
theorem addM : Statement .addM := fun _ => ⟨rfl, rfl⟩
theorem addA : Statement .addA := fun _ => ⟨rfl, rfl⟩
theorem adi (x : Byte) : Statement (.adi x) := fun _ =>
  ⟨(rfl : decodeOpcode 0xC6#8 x 0 = .adi x), (rfl : opcodeLength 0xC6#8 = 2)⟩
theorem adcB : Statement .adcB := fun _ => ⟨rfl, rfl⟩
theorem adcC : Statement .adcC := fun _ => ⟨rfl, rfl⟩
theorem adcD : Statement .adcD := fun _ => ⟨rfl, rfl⟩
theorem adcE : Statement .adcE := fun _ => ⟨rfl, rfl⟩
theorem adcH : Statement .adcH := fun _ => ⟨rfl, rfl⟩
theorem adcL : Statement .adcL := fun _ => ⟨rfl, rfl⟩
theorem adcM : Statement .adcM := fun _ => ⟨rfl, rfl⟩
theorem adcA : Statement .adcA := fun _ => ⟨rfl, rfl⟩
theorem aci (x : Byte) : Statement (.aci x) := fun _ =>
  ⟨(rfl : decodeOpcode 0xCE#8 x 0 = .aci x), (rfl : opcodeLength 0xCE#8 = 2)⟩
theorem subB : Statement .subB := fun _ => ⟨rfl, rfl⟩
theorem subC : Statement .subC := fun _ => ⟨rfl, rfl⟩
theorem subD : Statement .subD := fun _ => ⟨rfl, rfl⟩
theorem subE : Statement .subE := fun _ => ⟨rfl, rfl⟩
theorem subH : Statement .subH := fun _ => ⟨rfl, rfl⟩
theorem subL : Statement .subL := fun _ => ⟨rfl, rfl⟩
theorem subM : Statement .subM := fun _ => ⟨rfl, rfl⟩
theorem subA : Statement .subA := fun _ => ⟨rfl, rfl⟩
theorem sui (x : Byte) : Statement (.sui x) := fun _ =>
  ⟨(rfl : decodeOpcode 0xD6#8 x 0 = .sui x), (rfl : opcodeLength 0xD6#8 = 2)⟩
theorem sbbB : Statement .sbbB := fun _ => ⟨rfl, rfl⟩
theorem sbbC : Statement .sbbC := fun _ => ⟨rfl, rfl⟩
theorem sbbD : Statement .sbbD := fun _ => ⟨rfl, rfl⟩
theorem sbbE : Statement .sbbE := fun _ => ⟨rfl, rfl⟩
theorem sbbH : Statement .sbbH := fun _ => ⟨rfl, rfl⟩
theorem sbbL : Statement .sbbL := fun _ => ⟨rfl, rfl⟩
theorem sbbM : Statement .sbbM := fun _ => ⟨rfl, rfl⟩
theorem sbbA : Statement .sbbA := fun _ => ⟨rfl, rfl⟩
theorem sbi (x : Byte) : Statement (.sbi x) := fun _ =>
  ⟨(rfl : decodeOpcode 0xDE#8 x 0 = .sbi x), (rfl : opcodeLength 0xDE#8 = 2)⟩
theorem inrB : Statement .inrB := fun _ => ⟨rfl, rfl⟩
theorem inrC : Statement .inrC := fun _ => ⟨rfl, rfl⟩
theorem inrD : Statement .inrD := fun _ => ⟨rfl, rfl⟩
theorem inrE : Statement .inrE := fun _ => ⟨rfl, rfl⟩
theorem inrH : Statement .inrH := fun _ => ⟨rfl, rfl⟩
theorem inrL : Statement .inrL := fun _ => ⟨rfl, rfl⟩
theorem inrM : Statement .inrM := fun _ => ⟨rfl, rfl⟩
theorem inrA : Statement .inrA := fun _ => ⟨rfl, rfl⟩
theorem dcrB : Statement .dcrB := fun _ => ⟨rfl, rfl⟩
theorem dcrC : Statement .dcrC := fun _ => ⟨rfl, rfl⟩
theorem dcrD : Statement .dcrD := fun _ => ⟨rfl, rfl⟩
theorem dcrE : Statement .dcrE := fun _ => ⟨rfl, rfl⟩
theorem dcrH : Statement .dcrH := fun _ => ⟨rfl, rfl⟩
theorem dcrL : Statement .dcrL := fun _ => ⟨rfl, rfl⟩
theorem dcrM : Statement .dcrM := fun _ => ⟨rfl, rfl⟩
theorem dcrA : Statement .dcrA := fun _ => ⟨rfl, rfl⟩
theorem inxB : Statement .inxB := fun _ => ⟨rfl, rfl⟩
theorem inxD : Statement .inxD := fun _ => ⟨rfl, rfl⟩
theorem inxH : Statement .inxH := fun _ => ⟨rfl, rfl⟩
theorem inxSP : Statement .inxSP := fun _ => ⟨rfl, rfl⟩
theorem dcxB : Statement .dcxB := fun _ => ⟨rfl, rfl⟩
theorem dcxD : Statement .dcxD := fun _ => ⟨rfl, rfl⟩
theorem dcxH : Statement .dcxH := fun _ => ⟨rfl, rfl⟩
theorem dcxSP : Statement .dcxSP := fun _ => ⟨rfl, rfl⟩
theorem dadB : Statement .dadB := fun _ => ⟨rfl, rfl⟩
theorem dadD : Statement .dadD := fun _ => ⟨rfl, rfl⟩
theorem dadH : Statement .dadH := fun _ => ⟨rfl, rfl⟩
theorem dadSP : Statement .dadSP := fun _ => ⟨rfl, rfl⟩
theorem daa : Statement .daa := fun _ => ⟨rfl, rfl⟩
theorem anaB : Statement .anaB := fun _ => ⟨rfl, rfl⟩
theorem anaC : Statement .anaC := fun _ => ⟨rfl, rfl⟩
theorem anaD : Statement .anaD := fun _ => ⟨rfl, rfl⟩
theorem anaE : Statement .anaE := fun _ => ⟨rfl, rfl⟩
theorem anaH : Statement .anaH := fun _ => ⟨rfl, rfl⟩
theorem anaL : Statement .anaL := fun _ => ⟨rfl, rfl⟩
theorem anaM : Statement .anaM := fun _ => ⟨rfl, rfl⟩
theorem anaA : Statement .anaA := fun _ => ⟨rfl, rfl⟩
theorem ani (x : Byte) : Statement (.ani x) := fun _ =>
  ⟨(rfl : decodeOpcode 0xE6#8 x 0 = .ani x), (rfl : opcodeLength 0xE6#8 = 2)⟩
theorem xraB : Statement .xraB := fun _ => ⟨rfl, rfl⟩
theorem xraC : Statement .xraC := fun _ => ⟨rfl, rfl⟩
theorem xraD : Statement .xraD := fun _ => ⟨rfl, rfl⟩
theorem xraE : Statement .xraE := fun _ => ⟨rfl, rfl⟩
theorem xraH : Statement .xraH := fun _ => ⟨rfl, rfl⟩
theorem xraL : Statement .xraL := fun _ => ⟨rfl, rfl⟩
theorem xraM : Statement .xraM := fun _ => ⟨rfl, rfl⟩
theorem xraA : Statement .xraA := fun _ => ⟨rfl, rfl⟩
theorem xri (x : Byte) : Statement (.xri x) := fun _ =>
  ⟨(rfl : decodeOpcode 0xEE#8 x 0 = .xri x), (rfl : opcodeLength 0xEE#8 = 2)⟩
theorem oraB : Statement .oraB := fun _ => ⟨rfl, rfl⟩
theorem oraC : Statement .oraC := fun _ => ⟨rfl, rfl⟩
theorem oraD : Statement .oraD := fun _ => ⟨rfl, rfl⟩
theorem oraE : Statement .oraE := fun _ => ⟨rfl, rfl⟩
theorem oraH : Statement .oraH := fun _ => ⟨rfl, rfl⟩
theorem oraL : Statement .oraL := fun _ => ⟨rfl, rfl⟩
theorem oraM : Statement .oraM := fun _ => ⟨rfl, rfl⟩
theorem oraA : Statement .oraA := fun _ => ⟨rfl, rfl⟩
theorem ori (x : Byte) : Statement (.ori x) := fun _ =>
  ⟨(rfl : decodeOpcode 0xF6#8 x 0 = .ori x), (rfl : opcodeLength 0xF6#8 = 2)⟩
theorem cmpB : Statement .cmpB := fun _ => ⟨rfl, rfl⟩
theorem cmpC : Statement .cmpC := fun _ => ⟨rfl, rfl⟩
theorem cmpD : Statement .cmpD := fun _ => ⟨rfl, rfl⟩
theorem cmpE : Statement .cmpE := fun _ => ⟨rfl, rfl⟩
theorem cmpH : Statement .cmpH := fun _ => ⟨rfl, rfl⟩
theorem cmpL : Statement .cmpL := fun _ => ⟨rfl, rfl⟩
theorem cmpM : Statement .cmpM := fun _ => ⟨rfl, rfl⟩
theorem cmpA : Statement .cmpA := fun _ => ⟨rfl, rfl⟩
theorem cpi (x : Byte) : Statement (.cpi x) := fun _ =>
  ⟨(rfl : decodeOpcode 0xFE#8 x 0 = .cpi x), (rfl : opcodeLength 0xFE#8 = 2)⟩
theorem rlc : Statement .rlc := fun _ => ⟨rfl, rfl⟩
theorem rrc : Statement .rrc := fun _ => ⟨rfl, rfl⟩
theorem ral : Statement .ral := fun _ => ⟨rfl, rfl⟩
theorem rar : Statement .rar := fun _ => ⟨rfl, rfl⟩
theorem cma : Statement .cma := fun _ => ⟨rfl, rfl⟩
theorem stc : Statement .stc := fun _ => ⟨rfl, rfl⟩
theorem cmc : Statement .cmc := fun _ => ⟨rfl, rfl⟩
theorem jnz (w : Word) : Statement (.jnz w) := fun _ =>
  ⟨(rfl : decodeOpcode 0xC2#8 (loByte w) (hiByte w) = .jnz (joinBytes (hiByte w) (loByte w))).trans
    (congrArg Instr.jnz (Machine.joinBytes_hi_lo w)), (rfl : opcodeLength 0xC2#8 = 3)⟩
theorem jmp (w : Word) : Statement (.jmp w) := fun _ =>
  ⟨(rfl : decodeOpcode 0xC3#8 (loByte w) (hiByte w) = .jmp (joinBytes (hiByte w) (loByte w))).trans
    (congrArg Instr.jmp (Machine.joinBytes_hi_lo w)), (rfl : opcodeLength 0xC3#8 = 3)⟩
theorem jz (w : Word) : Statement (.jz w) := fun _ =>
  ⟨(rfl : decodeOpcode 0xCA#8 (loByte w) (hiByte w) = .jz (joinBytes (hiByte w) (loByte w))).trans
    (congrArg Instr.jz (Machine.joinBytes_hi_lo w)), (rfl : opcodeLength 0xCA#8 = 3)⟩
theorem jnc (w : Word) : Statement (.jnc w) := fun _ =>
  ⟨(rfl : decodeOpcode 0xD2#8 (loByte w) (hiByte w) = .jnc (joinBytes (hiByte w) (loByte w))).trans
    (congrArg Instr.jnc (Machine.joinBytes_hi_lo w)), (rfl : opcodeLength 0xD2#8 = 3)⟩
theorem jc (w : Word) : Statement (.jc w) := fun _ =>
  ⟨(rfl : decodeOpcode 0xDA#8 (loByte w) (hiByte w) = .jc (joinBytes (hiByte w) (loByte w))).trans
    (congrArg Instr.jc (Machine.joinBytes_hi_lo w)), (rfl : opcodeLength 0xDA#8 = 3)⟩
theorem jpo (w : Word) : Statement (.jpo w) := fun _ =>
  ⟨(rfl : decodeOpcode 0xE2#8 (loByte w) (hiByte w) = .jpo (joinBytes (hiByte w) (loByte w))).trans
    (congrArg Instr.jpo (Machine.joinBytes_hi_lo w)), (rfl : opcodeLength 0xE2#8 = 3)⟩
theorem jpe (w : Word) : Statement (.jpe w) := fun _ =>
  ⟨(rfl : decodeOpcode 0xEA#8 (loByte w) (hiByte w) = .jpe (joinBytes (hiByte w) (loByte w))).trans
    (congrArg Instr.jpe (Machine.joinBytes_hi_lo w)), (rfl : opcodeLength 0xEA#8 = 3)⟩
theorem jp (w : Word) : Statement (.jp w) := fun _ =>
  ⟨(rfl : decodeOpcode 0xF2#8 (loByte w) (hiByte w) = .jp (joinBytes (hiByte w) (loByte w))).trans
    (congrArg Instr.jp (Machine.joinBytes_hi_lo w)), (rfl : opcodeLength 0xF2#8 = 3)⟩
theorem jm (w : Word) : Statement (.jm w) := fun _ =>
  ⟨(rfl : decodeOpcode 0xFA#8 (loByte w) (hiByte w) = .jm (joinBytes (hiByte w) (loByte w))).trans
    (congrArg Instr.jm (Machine.joinBytes_hi_lo w)), (rfl : opcodeLength 0xFA#8 = 3)⟩
theorem ret : Statement .ret := fun _ => ⟨rfl, rfl⟩
theorem call (w : Word) : Statement (.call w) := fun _ =>
  ⟨(rfl : decodeOpcode 0xCD#8 (loByte w) (hiByte w) = .call (joinBytes (hiByte w) (loByte w))).trans
    (congrArg Instr.call (Machine.joinBytes_hi_lo w)), (rfl : opcodeLength 0xCD#8 = 3)⟩

/-- R87: the decision on each of the 53 bytes, over all 256. -/
theorem unimplemented_of_fin : ∀ n : Fin 256, defaultImplemented (BitVec.ofFin n) = false →
    decodeOpcode (BitVec.ofFin n) 0 0 = .unimplemented (BitVec.ofFin n) ∧ opcodeLength (BitVec.ofFin n) = 1 := by
  decide +kernel

theorem unimplemented_of_byte (op : Byte) (h : defaultImplemented op = false) :
    decodeOpcode op 0 0 = .unimplemented op ∧ opcodeLength op = 1 := by
  obtain ⟨n⟩ := op
  have := unimplemented_of_fin n
  exact this h

theorem unimplemented (op : Byte) : Statement (.unimplemented op) := by
  intro h
  rw [WellFormed_unimplemented, Config.implements] at h
  have hb : ∀ b : Bool, (!(b && !([] : List Byte).contains op)) = true → b = false := by
    intro b; cases b <;> simp
  have hu := unimplemented_of_byte op (hb _ h)
  have hi : ∀ k, imm (.unimplemented op) k = 0 := fun _ => rfl
  rw [hi, hi]
  exact hu

end Sys2Proof.Laws.OpcodeDecodes
end

