-- ==== Sys2Proof/Laws/Decoder.lean ====
section
/-! SUPPORT. The decoder's decision, the other way round: the opcode, the length and the immediates of what it gives; and
that it looks at no byte past the instruction (R73, R76, R84). -/

namespace Sys2Proof

/-- A fact of every byte, by its 256 values. -/
theorem forall_byte {P : Byte → Prop} (h : ∀ n, n < 256 → P (BitVec.ofNat 8 n)) (b : Byte) : P b := by
  simpa using h b.toNat b.isLt

/-- The instruction that an opcode byte decides has that opcode. -/
theorem opcode_decodeOpcode (op b1 b2 : Byte) : (decodeOpcode op b1 b2).opcode = op := by
  revert op
  refine forall_byte fun n hn => ?_
  interval_cases n
  all_goals rfl

/-- Its immediates are the bytes that follow, as many as the length says. -/
theorem immediates_decodeOpcode (op b1 b2 : Byte) (h : defaultImplemented op = true) :
    (decodeOpcode op b1 b2).immediates = [b1, b2].take (opcodeLength op - 1) := by
  have hw : [loByte (joinBytes b2 b1), hiByte (joinBytes b2 b1)] = [b1, b2] := by
    rw [Machine.loByte_joinBytes, Machine.hiByte_joinBytes]
  revert op
  refine forall_byte fun n hn => ?_
  interval_cases n
  all_goals first
    | exact fun _ => rfl
    | exact fun _ => hw

/-- R86: an opcode of the full set decides no trap. -/
theorem decodeOpcode_ne_unimplemented (op b1 b2 : Byte) (h : defaultImplemented op = true) (o : Byte) :
    decodeOpcode op b1 b2 ≠ .unimplemented o := by
  revert op
  refine forall_byte fun n hn => ?_
  interval_cases n
  all_goals first
    | exact fun _ h => Instr.noConfusion h
    | exact fun h => absurd h (by decide)

/-- R76: the instruction's length is the opcode's. -/
theorem length_decodeOpcode (op b1 b2 : Byte) (h : defaultImplemented op = true) :
    (decodeOpcode op b1 b2).length = opcodeLength op := by
  rw [← opcodeLength_opcode _ (decodeOpcode_ne_unimplemented op b1 b2 h), opcode_decodeOpcode]

@[simp] theorem opcode_decodeInstr (c : Config) (op b1 b2 : Byte) : (decodeInstr c op b1 b2).opcode = op := by
  unfold decodeInstr
  split
  · exact opcode_decodeOpcode op b1 b2
  · rfl

/-- The decision uses `b1` only in instructions longer than one byte, and `b2` only in those of three (R58). -/
theorem decodeInstr_congr (c : Config) (op b1 b2 b1' b2' : Byte) (h1 : opcodeLength op ≥ 2 → b1 = b1')
    (h2 : opcodeLength op = 3 → b2 = b2') : decodeInstr c op b1 b2 = decodeInstr c op b1' b2' := by
  unfold decodeInstr
  split
  · next h =>
    have hd := Config.implements_default h
    clear h
    revert op
    refine forall_byte fun n hn => ?_
    interval_cases n
    all_goals first
      | exact fun _ _ _ => rfl
      | exact fun h1 _ _ => congrArg _ (h1 (by decide))
      | exact fun h1 h2 _ => by rw [h1 (by decide), h2 (by decide)]
  · rfl

/-! ### `decode` of a byte list, in both directions -/

/-- What an opcode outside `IMPLEMENTED` decodes to (R87). -/
theorem decode_unimplemented {c : Config} {op : Byte} (rest : List Byte) (h : c.implements op = false) :
    decode c (op :: rest) = .ok (.unimplemented op, rest) := by
  rw [decode, h]; rfl

theorem decode_implemented {c : Config} {op : Byte} (rest : List Byte) (h : c.implements op = true) :
    decode c (op :: rest) = takeImmediates c op (opcodeLength op) rest := by
  rw [decode, h]; rfl

/-- What is taken: the decision, the bytes left over, and that there were enough. -/
theorem takeImmediates_ok {c : Config} {op : Byte} {n : Nat} {rest tail : List Byte} {i : Instr}
    (h : takeImmediates c op n rest = .ok (i, tail)) :
    (∃ b1 b2, i = decodeInstr c op b1 b2 ∧ (n ≥ 2 → b1 = rest.getD 0 0) ∧ (n = 3 → b2 = rest.getD 1 0)) ∧
      tail = rest.drop (n - 1) ∧ n ≤ rest.length + 1 := by
  unfold takeImmediates at h
  split at h
  · cases h; exact ⟨⟨0, 0, rfl, by simp, by simp⟩, rfl, by simp⟩
  · next b1 _ => cases h; exact ⟨⟨b1, 0, rfl, by simp, by simp⟩, rfl, by simp⟩
  · next b1 b2 _ => cases h; exact ⟨⟨b1, b2, rfl, by simp, by simp⟩, rfl, by simp⟩
  · cases h

theorem takeImmediates_some {c : Config} {op : Byte} {n : Nat} {rest : List Byte}
    (hn : n = 1 ∨ n = 2 ∨ n = 3) (hl : n ≤ rest.length + 1) :
    ∃ x, takeImmediates c op n rest = .ok x := by
  rcases hn with rfl | rfl | rfl
  · exact ⟨_, rfl⟩
  · match rest, hl with
    | b1 :: rest, _ => exact ⟨_, rfl⟩
  · match rest, hl with
    | b1 :: b2 :: rest, _ => exact ⟨_, rfl⟩

/-- What `decode` gives for an implemented opcode: the decision on the bytes that follow, and the bytes left over. -/
theorem decode_ok {c : Config} {op : Byte} {rest tail : List Byte} {i : Instr} (h : c.implements op = true)
    (hd : decode c (op :: rest) = .ok (i, tail)) :
    i = decodeInstr c op (rest.getD 0 0) (rest.getD 1 0) ∧ tail = rest.drop (opcodeLength op - 1) ∧
      opcodeLength op ≤ rest.length + 1 := by
  rw [decode_implemented rest h] at hd
  obtain ⟨⟨b1, b2, rfl, h1, h2⟩, ht, hl⟩ := takeImmediates_ok hd
  exact ⟨decodeInstr_congr c op b1 b2 _ _ h1 h2, ht, hl⟩

/-- An implemented opcode decodes as soon as its immediates are there (R73, R76). -/
theorem decode_some {c : Config} {op : Byte} {rest : List Byte} (h : c.implements op = true)
    (hl : opcodeLength op ≤ rest.length + 1) :
    decode c (op :: rest) =
      .ok (decodeInstr c op (rest.getD 0 0) (rest.getD 1 0), rest.drop (opcodeLength op - 1)) := by
  obtain ⟨⟨i, tail⟩, hd⟩ := takeImmediates_some (c := c) (op := op) (opcodeLength_cases op) hl
  rw [← decode_implemented rest h] at hd
  obtain ⟨rfl, rfl, -⟩ := decode_ok h hd
  exact hd

theorem decodeInstr_implemented {c : Config} {op : Byte} (h : c.implements op = true) (b1 b2 : Byte) :
    decodeInstr c op b1 b2 = decodeOpcode op b1 b2 := by rw [decodeInstr, if_pos h]

/-- The immediates are none, one byte or two. -/
theorem immediates_cases (i : Instr) :
    i.immediates = [] ∨ (∃ x, i.immediates = [x]) ∨ ∃ x y, i.immediates = [x, y] := by
  cases i
  all_goals first
    | exact .inl rfl
    | exact .inr (.inl ⟨_, rfl⟩)
    | exact .inr (.inr ⟨_, _, rfl⟩)

end Sys2Proof
end

