-- ==== Sys2Proof/Laws/Flags.lean ====
section
/-! SUPPORT. What each flag operation does to each bit of the flags cell (R29 to R38). -/

namespace Sys2Proof.Machine

/-- R31: a write of one flag changes that one bit and no other. -/
theorem getLsbD_setFlag (f : Byte) (x : Flag) (v : Bool) (k : Nat) (hk : k < 8) :
    (setFlag f x v).getLsbD k = if k = x.bit then v else f.getLsbD k := by
  have h : k = 0 ∨ k = 1 ∨ k = 2 ∨ k = 3 ∨ k = 4 ∨ k = 5 ∨ k = 6 ∨ k = 7 := by omega
  rcases h with rfl | rfl | rfl | rfl | rfl | rfl | rfl | rfl <;> cases x <;> cases v <;>
    simp [setFlag, Flag.mask, Flag.bit]

theorem Flag.bit_lt (x : Flag) : x.bit < 8 := by cases x <;> decide

theorem Flag.bit_inj {x y : Flag} (h : x.bit = y.bit) : x = y := by
  cases x <;> cases y <;> first | rfl | simp [Flag.bit] at h

/-- R31, over flags. -/
theorem getFlag_setFlag (f : Byte) (x y : Flag) (v : Bool) :
    getFlag (setFlag f x v) y = if y = x then v else getFlag f y := by
  rw [getFlag, getLsbD_setFlag f x v y.bit y.bit_lt]
  by_cases h : y = x
  · simp [h]
  · rw [if_neg h, if_neg (fun e => h (Flag.bit_inj e)), getFlag]

@[simp] theorem getFlag_setFlag_same (f : Byte) (x : Flag) (v : Bool) : getFlag (setFlag f x v) x = v := by
  simp [getFlag_setFlag]

/-- The toggle accessor is the write of the opposite value (R31, R177). -/
theorem toggleFlag_eq_setFlag (f : Byte) (x : Flag) : toggleFlag f x = setFlag f x (!getFlag f x) := by
  ext k hk
  rw [← BitVec.getLsbD_eq_getElem, ← BitVec.getLsbD_eq_getElem, getLsbD_setFlag _ _ _ _ hk]
  have h : k = 0 ∨ k = 1 ∨ k = 2 ∨ k = 3 ∨ k = 4 ∨ k = 5 ∨ k = 6 ∨ k = 7 := by omega
  rcases h with rfl | rfl | rfl | rfl | rfl | rfl | rfl | rfl <;> cases x <;>
    simp [toggleFlag, Flag.mask, Flag.bit, getFlag]

theorem getLsbD_setFlagIf (en : Bool) (f : Byte) (x : Flag) (v : Bool) (k : Nat) (hk : k < 8) :
    (setFlagIf en f x v).getLsbD k = if en = true ∧ k = x.bit then v else f.getLsbD k := by
  cases en <;> simp [setFlagIf, getLsbD_setFlag _ _ _ _ hk]

theorem getFlag_setFlagIf (en : Bool) (f : Byte) (x y : Flag) (v : Bool) :
    getFlag (setFlagIf en f x v) y = if en = true ∧ y = x then v else getFlag f y := by
  cases en <;> simp [setFlagIf, getFlag_setFlag]

/-- R33: the logical-group helper, flag by flag. -/
theorem getFlag_setFlags (f r : Byte) (en : Enables) (y : Flag) :
    getFlag (setFlags f r en) y =
      match y with
      | .z => if en.z then r == 0 else getFlag f .z
      | .s => if en.s then r.getLsbD 7 else getFlag f .s
      | .p => if en.p then parity8 r else getFlag f .p
      | .cy => getFlag f .cy
      | .ac => getFlag f .ac := by
  cases y <;> simp [setFlags, getFlag_setFlagIf]

/-- R35: the addition helper, flag by flag. -/
theorem getFlag_setFlagsAdd (f r a b : Byte) (cin : Bool) (en : Enables) (y : Flag) :
    getFlag (setFlagsAdd f r a b cin en) y =
      match y with
      | .cy => if en.cy then addCarry a b cin else getFlag f .cy
      | .ac => if en.ac then addAuxCarry a b cin else getFlag f .ac
      | y => getFlag (setFlags f r en) y := by
  cases y <;> simp [setFlagsAdd, getFlag_setFlagIf, getFlag_setFlags]

/-- R37: the subtraction helper, flag by flag. -/
theorem getFlag_setFlagsSub (reading : SubAcReading) (f r a b : Byte) (bin : Bool) (en : Enables) (y : Flag) :
    getFlag (setFlagsSub reading f r a b bin en) y =
      match y with
      | .cy => if en.cy then subBorrow a b bin else getFlag f .cy
      | .ac => if en.ac then subAuxCarry reading a b bin else getFlag f .ac
      | y => getFlag (setFlags f r en) y := by
  cases y <;> simp [setFlagsSub, getFlag_setFlagIf, getFlag_setFlags]

/-! ### The padding bits (R30) -/

/-- The padding bits 1, 3 and 5. -/
abbrev IsPadding (k : Nat) : Prop := k = 1 ∨ k = 3 ∨ k = 5

theorem IsPadding.lt {k : Nat} (h : IsPadding k) : k < 8 := by rcases h with h | h | h <;> omega

theorem IsPadding.ne_bit {k : Nat} (h : IsPadding k) (x : Flag) : k ≠ x.bit := by
  rcases h with rfl | rfl | rfl <;> cases x <;> decide

@[simp] theorem padding_setFlag {k : Nat} (h : IsPadding k) (f : Byte) (x : Flag) (v : Bool) :
    (setFlag f x v).getLsbD k = f.getLsbD k := by
  rw [getLsbD_setFlag _ _ _ _ h.lt, if_neg (h.ne_bit x)]

@[simp] theorem padding_setFlagIf {k : Nat} (h : IsPadding k) (en : Bool) (f : Byte) (x : Flag) (v : Bool) :
    (setFlagIf en f x v).getLsbD k = f.getLsbD k := by
  cases en <;> simp [setFlagIf, h]

@[simp] theorem padding_toggleFlag {k : Nat} (h : IsPadding k) (f : Byte) (x : Flag) :
    (toggleFlag f x).getLsbD k = f.getLsbD k := by
  rw [toggleFlag_eq_setFlag, padding_setFlag h]

@[simp] theorem padding_setFlags {k : Nat} (h : IsPadding k) (f r : Byte) (en : Enables) :
    (setFlags f r en).getLsbD k = f.getLsbD k := by simp [setFlags, h]

@[simp] theorem padding_setFlagsAdd {k : Nat} (h : IsPadding k) (f r a b : Byte) (cin : Bool) (en : Enables) :
    (setFlagsAdd f r a b cin en).getLsbD k = f.getLsbD k := by simp [setFlagsAdd, h]

@[simp] theorem padding_setFlagsSub {k : Nat} (h : IsPadding k) (rd : SubAcReading) (f r a b : Byte) (bin : Bool)
    (en : Enables) : (setFlagsSub rd f r a b bin en).getLsbD k = f.getLsbD k := by simp [setFlagsSub, h]

@[simp] theorem padding_replaceFlags {k : Nat} (h : IsPadding k) (f v : Byte) :
    (replaceFlags f v).getLsbD k = f.getLsbD k := by
  rcases h with rfl | rfl | rfl <;> simp [replaceFlags, flagBits]

/-- Two flags cells that agree on every flag and every padding bit are equal. -/
theorem flags_ext {f g : Byte} (h : ∀ y, getFlag f y = getFlag g y)
    (hp : ∀ k, IsPadding k → f.getLsbD k = g.getLsbD k) : f = g := by
  ext k hk
  rw [← BitVec.getLsbD_eq_getElem, ← BitVec.getLsbD_eq_getElem]
  have hk' : k = 0 ∨ k = 1 ∨ k = 2 ∨ k = 3 ∨ k = 4 ∨ k = 5 ∨ k = 6 ∨ k = 7 := by omega
  rcases hk' with rfl | rfl | rfl | rfl | rfl | rfl | rfl | rfl
  · exact h .cy
  · exact hp 1 (by decide)
  · exact h .p
  · exact hp 3 (by decide)
  · exact h .ac
  · exact hp 5 (by decide)
  · exact h .z
  · exact h .s

/-! ### The arithmetic of the helpers -/

/-- R34. -/
theorem add8_toNat (a b : Byte) (cin : Bool) : (add8 a b cin).toNat = (a.toNat + b.toNat + cin.toNat) % 256 := by
  simp [add8]

/-- R36. -/
theorem sub8_toInt (a b : Byte) (bin : Bool) :
    ((sub8 a b bin).toNat : Int) = ((a.toNat : Int) - b.toNat - bin.toNat) % 256 := by
  have := a.isLt; have := b.isLt
  cases bin <;> simp [sub8] <;> omega

/-- The two readings of `SUB_AC_READING` agree where nothing is borrowed in (R37, R136). -/
theorem subAuxCarry_false (rd : SubAcReading) (a b : Byte) :
    subAuxCarry rd a b false = decide (lowNibble a < lowNibble b) := by
  cases rd <;> rfl

/-- The readings differ only at `b & 0xF = 0xF` with a borrow in (R37). -/
theorem subAuxCarry_readings_agree (a b : Byte) (bin : Bool) (h : ¬(lowNibble b = 15 ∧ bin = true)) :
    subAuxCarry .literal a b bin = subAuxCarry .nibble a b bin := by
  cases bin <;> simp [subAuxCarry, lowNibble] at h ⊢
  have : (b.toNat + 1) % 16 = b.toNat % 16 + 1 := by omega
  simp [this]

end Sys2Proof.Machine
end

