-- ==== Sys2Proof/Laws/Exec.lean ====
section
/-! SUPPORT. `exec` of each family by its selector, what completing an instruction does, and one inversion: every
instruction is the trap or completes with an effect. -/

namespace Sys2Proof.Machine

theorem exec_mov (dst src : Reg) (s : State) :
    exec (.mov dst src) s = completes (.mov dst src) (moveReg dst src) s := by
  cases dst <;> cases src <;> rfl
theorem exec_movFromM (dst : Reg) (s : State) :
    exec (.movFromM dst) s = completes (.movFromM dst) (loadFromM dst) s := by cases dst <;> rfl
theorem exec_movToM (r : Reg) (s : State) : exec (.movToM r) s = completes (.movToM r) (storeToM r) s := by
  cases r <;> rfl
theorem exec_mvi (x : Operand) (data : Byte) (s : State) :
    exec (.mvi x data) s = completes (.mvi x data) (loadImmediate x data) s := by
  rcases x with r | _
  · cases r <;> rfl
  · rfl
theorem exec_lxi (p : Pair) (data : Word) (s : State) :
    exec (.lxi p data) s = completes (.lxi p data) (loadPair p data) s := by cases p <;> rfl
theorem exec_ldax (p : IndirectPair) (s : State) : exec (.ldax p) s = completes (.ldax p) (loadIndirect p) s := by
  cases p <;> rfl
theorem exec_stax (p : IndirectPair) (s : State) : exec (.stax p) s = completes (.stax p) (storeIndirect p) s := by
  cases p <;> rfl
theorem exec_alu (op : AluOp) (x : Source) (s : State) :
    exec (.alu op x) s = completes (.alu op x) (aluEffect op x) s := by
  rcases x with r | _ | data
  · cases op <;> cases r <;> rfl
  · cases op <;> rfl
  · cases op <;> rfl
theorem exec_inr (x : Operand) (s : State) : exec (.inr x) s = completes (.inr x) (increment x) s := by
  rcases x with r | _
  · cases r <;> rfl
  · rfl
theorem exec_dcr (x : Operand) (s : State) : exec (.dcr x) s = completes (.dcr x) (decrement x) s := by
  rcases x with r | _
  · cases r <;> rfl
  · rfl
theorem exec_inx (p : Pair) (s : State) : exec (.inx p) s = completes (.inx p) (incrementPair p) s := by
  cases p <;> rfl
theorem exec_dcx (p : Pair) (s : State) : exec (.dcx p) s = completes (.dcx p) (decrementPair p) s := by
  cases p <;> rfl
theorem exec_dad (p : Pair) (s : State) : exec (.dad p) s = completes (.dad p) (addPair p) s := by
  cases p <;> rfl
theorem exec_jcond (cond : Cond) (addr : Word) (s : State) :
    exec (.jcond cond addr) s = completes (.jcond cond addr) (jumpIf cond addr) s := by cases cond <;> rfl
theorem exec_unimplemented (op : Byte) (s : State) : exec (.unimplemented op) s = .next (s.takeTrap op) := rfl

/-- The instructions by shape: what a proof about all of them goes through, family by family. -/
theorem instr_shapes {P : Instr → Prop} (mov : ∀ dst src, P (.mov dst src)) (movFromM : ∀ dst, P (.movFromM dst))
    (movToM : ∀ r, P (.movToM r)) (mvi : ∀ x data, P (.mvi x data)) (lxi : ∀ p data, P (.lxi p data))
    (lda : ∀ addr, P (.lda addr)) (sta : ∀ addr, P (.sta addr)) (ldax : ∀ p, P (.ldax p)) (stax : ∀ p, P (.stax p))
    (lhld : ∀ addr, P (.lhld addr)) (shld : ∀ addr, P (.shld addr)) (xchg : P .xchg)
    (alu : ∀ op x, P (.alu op x)) (inr : ∀ x, P (.inr x)) (dcr : ∀ x, P (.dcr x)) (inx : ∀ p, P (.inx p))
    (dcx : ∀ p, P (.dcx p)) (dad : ∀ p, P (.dad p)) (daa : P .daa) (rlc : P .rlc) (rrc : P .rrc) (ral : P .ral)
    (rar : P .rar) (cma : P .cma) (cmc : P .cmc) (stc : P .stc) (jmp : ∀ addr, P (.jmp addr))
    (jcond : ∀ cond addr, P (.jcond cond addr)) (call : ∀ addr, P (.call addr)) (ret : P .ret)
    (unimplemented : ∀ op, P (.unimplemented op)) (i : Instr) : P i :=
  match i with
  | .movBB => mov .b .b | .movBC => mov .b .c | .movBD => mov .b .d | .movBE => mov .b .e | .movBH => mov .b .h
  | .movBL => mov .b .l | .movBA => mov .b .a | .movCB => mov .c .b | .movCC => mov .c .c | .movCD => mov .c .d
  | .movCE => mov .c .e | .movCH => mov .c .h | .movCL => mov .c .l | .movCA => mov .c .a | .movDB => mov .d .b
  | .movDC => mov .d .c | .movDD => mov .d .d | .movDE => mov .d .e | .movDH => mov .d .h | .movDL => mov .d .l
  | .movDA => mov .d .a | .movEB => mov .e .b | .movEC => mov .e .c | .movED => mov .e .d | .movEE => mov .e .e
  | .movEH => mov .e .h | .movEL => mov .e .l | .movEA => mov .e .a | .movHB => mov .h .b | .movHC => mov .h .c
  | .movHD => mov .h .d | .movHE => mov .h .e | .movHH => mov .h .h | .movHL => mov .h .l | .movHA => mov .h .a
  | .movLB => mov .l .b | .movLC => mov .l .c | .movLD => mov .l .d | .movLE => mov .l .e | .movLH => mov .l .h
  | .movLL => mov .l .l | .movLA => mov .l .a | .movAB => mov .a .b | .movAC => mov .a .c | .movAD => mov .a .d
  | .movAE => mov .a .e | .movAH => mov .a .h | .movAL => mov .a .l | .movAA => mov .a .a
  | .movBM => movFromM .b | .movCM => movFromM .c | .movDM => movFromM .d | .movEM => movFromM .e
  | .movHM => movFromM .h | .movLM => movFromM .l | .movAM => movFromM .a | .movMB => movToM .b
  | .movMC => movToM .c | .movMD => movToM .d | .movME => movToM .e | .movMH => movToM .h | .movML => movToM .l
  | .movMA => movToM .a | .mviB x => mvi (.reg .b) x | .mviC x => mvi (.reg .c) x | .mviD x => mvi (.reg .d) x
  | .mviE x => mvi (.reg .e) x | .mviH x => mvi (.reg .h) x | .mviL x => mvi (.reg .l) x | .mviM x => mvi .m x
  | .mviA x => mvi (.reg .a) x | .lxiB x => lxi .bc x | .lxiD x => lxi .de x | .lxiH x => lxi .hl x
  | .lxiSP x => lxi .sp x | .staxB => stax .bc | .ldaxB => ldax .bc | .staxD => stax .de | .ldaxD => ldax .de
  | .sta x => sta x | .lda x => lda x | .shld x => shld x | .lhld x => lhld x | .xchg => xchg
  | .addB => alu .add (.reg .b) | .addC => alu .add (.reg .c) | .addD => alu .add (.reg .d)
  | .addE => alu .add (.reg .e) | .addH => alu .add (.reg .h) | .addL => alu .add (.reg .l)
  | .addM => alu .add .m | .addA => alu .add (.reg .a) | .adi x => alu .add (.imm x)
  | .adcB => alu .adc (.reg .b) | .adcC => alu .adc (.reg .c) | .adcD => alu .adc (.reg .d)
  | .adcE => alu .adc (.reg .e) | .adcH => alu .adc (.reg .h) | .adcL => alu .adc (.reg .l)
  | .adcM => alu .adc .m | .adcA => alu .adc (.reg .a) | .aci x => alu .adc (.imm x)
  | .subB => alu .sub (.reg .b) | .subC => alu .sub (.reg .c) | .subD => alu .sub (.reg .d)
  | .subE => alu .sub (.reg .e) | .subH => alu .sub (.reg .h) | .subL => alu .sub (.reg .l)
  | .subM => alu .sub .m | .subA => alu .sub (.reg .a) | .sui x => alu .sub (.imm x)
  | .sbbB => alu .sbb (.reg .b) | .sbbC => alu .sbb (.reg .c) | .sbbD => alu .sbb (.reg .d)
  | .sbbE => alu .sbb (.reg .e) | .sbbH => alu .sbb (.reg .h) | .sbbL => alu .sbb (.reg .l)
  | .sbbM => alu .sbb .m | .sbbA => alu .sbb (.reg .a) | .sbi x => alu .sbb (.imm x) | .inrB => inr (.reg .b)
  | .inrC => inr (.reg .c) | .inrD => inr (.reg .d) | .inrE => inr (.reg .e) | .inrH => inr (.reg .h)
  | .inrL => inr (.reg .l) | .inrM => inr .m | .inrA => inr (.reg .a) | .dcrB => dcr (.reg .b)
  | .dcrC => dcr (.reg .c) | .dcrD => dcr (.reg .d) | .dcrE => dcr (.reg .e) | .dcrH => dcr (.reg .h)
  | .dcrL => dcr (.reg .l) | .dcrM => dcr .m | .dcrA => dcr (.reg .a) | .inxB => inx .bc | .inxD => inx .de
  | .inxH => inx .hl | .inxSP => inx .sp | .dcxB => dcx .bc | .dcxD => dcx .de | .dcxH => dcx .hl
  | .dcxSP => dcx .sp | .dadB => dad .bc | .dadD => dad .de | .dadH => dad .hl | .dadSP => dad .sp
  | .daa => daa | .anaB => alu .ana (.reg .b) | .anaC => alu .ana (.reg .c) | .anaD => alu .ana (.reg .d)
  | .anaE => alu .ana (.reg .e) | .anaH => alu .ana (.reg .h) | .anaL => alu .ana (.reg .l)
  | .anaM => alu .ana .m | .anaA => alu .ana (.reg .a) | .ani x => alu .ana (.imm x)
  | .xraB => alu .xra (.reg .b) | .xraC => alu .xra (.reg .c) | .xraD => alu .xra (.reg .d)
  | .xraE => alu .xra (.reg .e) | .xraH => alu .xra (.reg .h) | .xraL => alu .xra (.reg .l)
  | .xraM => alu .xra .m | .xraA => alu .xra (.reg .a) | .xri x => alu .xra (.imm x)
  | .oraB => alu .ora (.reg .b) | .oraC => alu .ora (.reg .c) | .oraD => alu .ora (.reg .d)
  | .oraE => alu .ora (.reg .e) | .oraH => alu .ora (.reg .h) | .oraL => alu .ora (.reg .l)
  | .oraM => alu .ora .m | .oraA => alu .ora (.reg .a) | .ori x => alu .ora (.imm x)
  | .cmpB => alu .cmp (.reg .b) | .cmpC => alu .cmp (.reg .c) | .cmpD => alu .cmp (.reg .d)
  | .cmpE => alu .cmp (.reg .e) | .cmpH => alu .cmp (.reg .h) | .cmpL => alu .cmp (.reg .l)
  | .cmpM => alu .cmp .m | .cmpA => alu .cmp (.reg .a) | .cpi x => alu .cmp (.imm x) | .rlc => rlc
  | .rrc => rrc | .ral => ral | .rar => rar | .cma => cma | .stc => stc | .cmc => cmc | .jnz x => jcond .nz x
  | .jmp x => jmp x | .jz x => jcond .z x | .jnc x => jcond .nc x | .jc x => jcond .c x | .jpo x => jcond .po x
  | .jpe x => jcond .pe x | .jp x => jcond .p x | .jm x => jcond .m x | .ret => ret | .call x => call x
  | .unimplemented x => unimplemented x

end Sys2Proof.Machine
end

