-- ==== Sys2Proof/Laws/Step.lean ====
section
/-! SUPPORT. What a step can do: it is `exec` of the fetched instruction on a running machine, every instruction answers
a next state, and that state is the trap's or an effect's. -/

namespace Sys2Proof.Machine

/-- What `exec i` answers, for every instruction at once: the trap, or the effect after the advance of `pc`. -/
def afterExec (i : Instr) (effect : State → State) (s : State) : State :=
  (effect (s.advancePc i.length)).returnCycles (s.config.cyclesOf i.opcode)

theorem completes_eq (i : Instr) (effect : State → State) (s : State) :
    completes i effect s = .next (afterExec i effect s) := rfl

/-- A running machine's step is `exec` of what it fetches; a trapped machine's is a fault. -/
theorem step_running {s : State} (h : s.trap = .running) : step s = exec s.fetch s := by simp [step, h]

theorem step_trapped {s : State} {pc0 : Word} {op : Byte} (h : s.trap = .trapped pc0 op) :
    step s = .fault (.terminated pc0 op) := by simp [step, h]

/-- One inversion for the step: a next state comes from a running machine and from `exec`. -/
theorem step_next {s t : State} (h : step s = .next t) : s.trap = .running ∧ exec s.fetch s = .next t := by
  cases ht : s.trap with
  | running => exact ⟨rfl, by rw [← step_running ht, h]⟩
  | trapped pc0 op => rw [step_trapped ht] at h; cases h

/-- Every instruction is the trap or completes with an effect of its own. -/
theorem exec_cases (i : Instr) :
    (∃ op, i = .unimplemented op) ∨ ∃ effect : State → State, ∀ s, exec i s = .next (afterExec i effect s) := by
  refine instr_shapes (P := fun i => (∃ op, i = .unimplemented op) ∨ ∃ effect : State → State, ∀ s,
    exec i s = .next (afterExec i effect s)) ?_ ?_ ?_ ?_ ?_ ?_ ?_ ?_ ?_ ?_ ?_ ?_ ?_ ?_ ?_ ?_ ?_ ?_ ?_ ?_ ?_ ?_ ?_ ?_
    ?_ ?_ ?_ ?_ ?_ ?_ (fun op => .inl ⟨op, rfl⟩) i
  · exact fun dst src => .inr ⟨_, exec_mov dst src⟩
  · exact fun dst => .inr ⟨_, exec_movFromM dst⟩
  · exact fun src => .inr ⟨_, exec_movToM src⟩
  · exact fun x data => .inr ⟨_, exec_mvi x data⟩
  · exact fun p data => .inr ⟨_, exec_lxi p data⟩
  · exact fun addr => .inr ⟨loadDirect addr, fun _ => rfl⟩
  · exact fun addr => .inr ⟨storeDirect addr, fun _ => rfl⟩
  · exact fun p => .inr ⟨_, exec_ldax p⟩
  · exact fun p => .inr ⟨_, exec_stax p⟩
  · exact fun addr => .inr ⟨loadHL addr, fun _ => rfl⟩
  · exact fun addr => .inr ⟨storeHL addr, fun _ => rfl⟩
  · exact .inr ⟨exchange, fun _ => rfl⟩
  · exact fun op x => .inr ⟨_, exec_alu op x⟩
  · exact fun x => .inr ⟨_, exec_inr x⟩
  · exact fun x => .inr ⟨_, exec_dcr x⟩
  · exact fun p => .inr ⟨_, exec_inx p⟩
  · exact fun p => .inr ⟨_, exec_dcx p⟩
  · exact fun p => .inr ⟨_, exec_dad p⟩
  · exact .inr ⟨decimalAdjust, fun _ => rfl⟩
  · exact .inr ⟨rotateLeft, fun _ => rfl⟩
  · exact .inr ⟨rotateRight, fun _ => rfl⟩
  · exact .inr ⟨rotateLeftThroughCarry, fun _ => rfl⟩
  · exact .inr ⟨rotateRightThroughCarry, fun _ => rfl⟩
  · exact .inr ⟨complementA, fun _ => rfl⟩
  · exact .inr ⟨complementCarry, fun _ => rfl⟩
  · exact .inr ⟨setCarry, fun _ => rfl⟩
  · exact fun addr => .inr ⟨jump addr, fun _ => rfl⟩
  · exact fun cond addr => .inr ⟨_, exec_jcond cond addr⟩
  · exact fun addr => .inr ⟨callSubroutine addr, fun _ => rfl⟩
  · exact .inr ⟨returnFromSubroutine, fun _ => rfl⟩

/-- No instruction stops the machine (R225). -/
theorem exec_next (i : Instr) (s : State) : ∃ t, exec i s = .next t := by
  rcases exec_cases i with ⟨op, rfl⟩ | ⟨effect, h⟩
  · exact ⟨_, rfl⟩
  · exact ⟨_, h s⟩

end Sys2Proof.Machine
end

