-- ==== Sys2Proof/Laws/Effects.lean ====
section
/-! SUPPORT. What every effect keeps (trap status, parameters, padding bits, the canonical form of memory), one lemma for
each shared operation and each effect, and the same for `exec`; then the arithmetic of the rotates, the correction of DAA
and the stack. -/

namespace Sys2Proof.Machine

/-- What no effect changes (R30, R45, R8), and that the canonical form of memory is kept. -/
structure Keeps (s t : State) : Prop where
  trap : t.trap = s.trap
  config : t.config = s.config
  padding : ∀ k, IsPadding k → t.f.getLsbD k = s.f.getLsbD k
  wf : s.mem.wf → t.mem.wf

theorem Keeps.trans {s t u : State} (h : Keeps s t) (h' : Keeps t u) : Keeps s u :=
  ⟨h'.trap.trans h.trap, h'.config.trans h.config, fun k hk => (h'.padding k hk).trans (h.padding k hk),
    fun hw => h'.wf (h.wf hw)⟩

/-! ### The shared operations -/

/-- An update of registers, `pc`, SP, the count or the counter of free values alone. -/
theorem Keeps.of_eq {s t : State} (ht : t.trap = s.trap) (hc : t.config = s.config) (hf : t.f = s.f)
    (hm : t.mem = s.mem) : Keeps s t := ⟨ht, hc, fun _ _ => by rw [hf], fun h => by rw [hm]; exact h⟩

theorem keeps_writeReg (s : State) (r : Reg) (v : Byte) : Keeps s (s.writeReg r v) :=
  .of_eq (by simp) (by simp) (by simp) (by simp)
theorem keeps_writePair (s : State) (p : Pair) (v : Word) : Keeps s (s.writePair p v) :=
  .of_eq (by simp) (by simp) (by simp) (by simp)
theorem keeps_writeByte (s : State) (addr : Word) (v : Byte) : Keeps s (s.writeByte addr v) :=
  ⟨rfl, rfl, fun _ _ => rfl, fun h => State.mem_wf_writeByte h addr v⟩
theorem keeps_write16 (s : State) (addr v : Word) : Keeps s (s.write16 addr v) :=
  (keeps_writeByte s addr _).trans (keeps_writeByte _ (addr + 1) _)
theorem keeps_writeOperand (s : State) (x : Operand) (v : Byte) : Keeps s (s.writeOperand x v) := by
  cases x
  · exact keeps_writeReg s _ v
  · exact keeps_writeByte s _ v
theorem keeps_setPc (s : State) (v : Word) : Keeps s (s.setPc v) := .of_eq rfl rfl rfl rfl
theorem keeps_setSp (s : State) (v : Word) : Keeps s (s.setSp v) := .of_eq rfl rfl rfl rfl
theorem keeps_pushByte (s : State) (v : Byte) : Keeps s (s.pushByte v) :=
  (keeps_setSp s _).trans (keeps_writeByte _ _ v)
theorem keeps_setF (s : State) (f : Byte) (h : ∀ k, IsPadding k → f.getLsbD k = s.f.getLsbD k) :
    Keeps s (s.setF f) := ⟨rfl, rfl, h, id⟩
theorem keeps_setAF (s : State) (a f : Byte) (h : ∀ k, IsPadding k → f.getLsbD k = s.f.getLsbD k) :
    Keeps s (s.setAF a f) := ⟨rfl, rfl, h, id⟩
theorem keeps_setFlag (s : State) (x : Flag) (v : Bool) : Keeps s (s.setFlag x v) :=
  keeps_setF s _ fun _ hk => padding_setFlag hk s.f x v

/-! ### The effects -/

theorem keeps_accumulate (op : AluOp) (b : Byte) (s : State) : Keeps s (accumulate op b s) := by
  cases op
  · exact keeps_setAF s _ _ fun _ hk => padding_setFlagsAdd hk ..
  · exact keeps_setAF s _ _ fun _ hk => padding_setFlagsAdd hk ..
  · exact keeps_setAF s _ _ fun _ hk => padding_setFlagsSub hk ..
  · exact keeps_setAF s _ _ fun _ hk => padding_setFlagsSub hk ..
  · exact keeps_setAF s _ _ fun _ hk => by simp [hk]
  · exact keeps_setAF s _ _ fun _ hk => by simp [hk]
  · exact keeps_setAF s _ _ fun _ hk => by simp [hk]
  · exact keeps_setF s _ fun _ hk => padding_setFlagsSub hk ..

theorem keeps_increment (x : Operand) (s : State) : Keeps s (increment x s) :=
  (keeps_writeOperand s x _).trans (keeps_setF _ _ fun _ hk => by simp [hk])

theorem keeps_decrement (x : Operand) (s : State) : Keeps s (decrement x s) :=
  (keeps_writeOperand s x _).trans (keeps_setF _ _ fun _ hk => by simp [hk])

theorem keeps_addPair (p : Pair) (s : State) : Keeps s (addPair p s) :=
  (keeps_writePair s .hl _).trans (keeps_setFlag _ _ _)

theorem keeps_decimalAdjust (s : State) : Keeps s (decimalAdjust s) := by
  unfold decimalAdjust
  split
  · exact keeps_setAF s _ _ fun _ hk => by simp [hk]
  · exact (keeps_setAF s (daaCorrection s) _ fun _ hk => padding_replaceFlags hk s.f s.nextFree).trans
      (.of_eq rfl rfl rfl rfl)

theorem keeps_rotated (a : Byte) (cy : Bool) (s : State) : Keeps s (rotated a cy s) :=
  (keeps_writeReg s .a a).trans (keeps_setFlag _ _ _)

theorem keeps_complementCarry (s : State) : Keeps s (complementCarry s) :=
  keeps_setF s _ fun _ hk => padding_toggleFlag hk s.f .cy

theorem keeps_jumpIf (cond : Cond) (addr : Word) (s : State) : Keeps s (jumpIf cond addr s) := by
  unfold jumpIf
  split
  · exact keeps_setPc s addr
  · exact .of_eq rfl rfl rfl rfl

theorem keeps_callSubroutine (addr : Word) (s : State) : Keeps s (callSubroutine addr s) :=
  ((keeps_pushByte s _).trans (keeps_pushByte _ _)).trans (keeps_setPc _ _)

theorem keeps_returnFromSubroutine (s : State) : Keeps s (returnFromSubroutine s) :=
  (keeps_setSp s _).trans (keeps_setPc _ _)

/-! ### Every instruction -/

/-- What completing an instruction keeps, from what its effect keeps. -/
theorem keeps_completes {i : Instr} {effect : State → State} (h : ∀ s, Keeps s (effect s)) (s : State) :
    ∃ t, completes i effect s = .next t ∧ Keeps s t ∧ t.cycles = some (s.config.cyclesOf i.opcode) :=
  ⟨_, rfl, ((keeps_setPc s (s.pc + BitVec.ofNat 16 i.length)).trans (h _)).trans (.of_eq rfl rfl rfl rfl), rfl⟩

/-- Every instruction but the trap completes, keeps what `Keeps` says, and returns its count (R245). -/
theorem exec_keeps (i : Instr) (s : State) (hn : ∀ op, i ≠ .unimplemented op) :
    ∃ t, exec i s = .next t ∧ Keeps s t ∧ t.cycles = some (s.config.cyclesOf i.opcode) := by
  revert hn
  refine instr_shapes (P := fun i => (∀ op, i ≠ .unimplemented op) →
    ∃ t, exec i s = .next t ∧ Keeps s t ∧ t.cycles = some (s.config.cyclesOf i.opcode))
    ?_ ?_ ?_ ?_ ?_ ?_ ?_ ?_ ?_ ?_ ?_ ?_ ?_ ?_ ?_ ?_ ?_ ?_ ?_ ?_ ?_ ?_ ?_ ?_ ?_ ?_ ?_ ?_ ?_ ?_
    (fun op h => absurd rfl (h op)) i
  · exact fun dst src _ => exec_mov dst src s ▸ keeps_completes (fun s => keeps_writeReg s _ _) s
  · exact fun dst _ => exec_movFromM dst s ▸ keeps_completes (fun s => keeps_writeReg s _ _) s
  · exact fun src _ => exec_movToM src s ▸ keeps_completes (fun s => keeps_writeByte s _ _) s
  · exact fun x data _ => exec_mvi x data s ▸ keeps_completes (fun s => keeps_writeOperand s _ _) s
  · exact fun p data _ => exec_lxi p data s ▸ keeps_completes (fun s => keeps_writePair s _ _) s
  · exact fun addr _ => keeps_completes (effect := loadDirect addr) (fun s => keeps_writeReg s _ _) s
  · exact fun addr _ => keeps_completes (effect := storeDirect addr) (fun s => keeps_writeByte s _ _) s
  · exact fun p _ => exec_ldax p s ▸ keeps_completes (fun s => keeps_writeReg s _ _) s
  · exact fun p _ => exec_stax p s ▸ keeps_completes (fun s => keeps_writeByte s _ _) s
  · exact fun addr _ => keeps_completes (effect := loadHL addr) (fun s => keeps_writePair s _ _) s
  · exact fun addr _ => keeps_completes (effect := storeHL addr) (fun s => keeps_write16 s _ _) s
  · exact fun _ => keeps_completes (effect := exchange)
      (fun s => (keeps_writePair s .hl _).trans (keeps_writePair _ .de _)) s
  · exact fun op x _ => exec_alu op x s ▸ keeps_completes (fun s => keeps_accumulate op _ s) s
  · exact fun x _ => exec_inr x s ▸ keeps_completes (keeps_increment x) s
  · exact fun x _ => exec_dcr x s ▸ keeps_completes (keeps_decrement x) s
  · exact fun p _ => exec_inx p s ▸ keeps_completes (fun s => keeps_writePair s _ _) s
  · exact fun p _ => exec_dcx p s ▸ keeps_completes (fun s => keeps_writePair s _ _) s
  · exact fun p _ => exec_dad p s ▸ keeps_completes (keeps_addPair p) s
  · exact fun _ => keeps_completes keeps_decimalAdjust s
  · exact fun _ => keeps_completes (effect := rotateLeft) (fun s => keeps_rotated _ _ s) s
  · exact fun _ => keeps_completes (effect := rotateRight) (fun s => keeps_rotated _ _ s) s
  · exact fun _ => keeps_completes (effect := rotateLeftThroughCarry) (fun s => keeps_rotated _ _ s) s
  · exact fun _ => keeps_completes (effect := rotateRightThroughCarry) (fun s => keeps_rotated _ _ s) s
  · exact fun _ => keeps_completes (effect := complementA) (fun s => keeps_writeReg s _ _) s
  · exact fun _ => keeps_completes keeps_complementCarry s
  · exact fun _ => keeps_completes (effect := setCarry) (fun s => keeps_setFlag s _ _) s
  · exact fun addr _ => keeps_completes (effect := jump addr) (fun s => keeps_setPc s _) s
  · exact fun cond addr _ => exec_jcond cond addr s ▸ keeps_completes (keeps_jumpIf cond addr) s
  · exact fun addr _ => keeps_completes (keeps_callSubroutine addr) s
  · exact fun _ => keeps_completes keeps_returnFromSubroutine s

/-! ### The stack (R209, R210) -/

theorem sub_two (v : Word) : v - 1 - 1 = v - 2 := by bv_omega

theorem sub_two_ne (v : Word) : v - 2 ≠ v - 1 := by bv_omega

/-- CALL's two pushes: the low byte of `pc` at SP - 2, the high byte at SP - 1, and no other cell. -/
theorem State.readByte_callSubroutine (s : State) (addr k : Word) :
    (callSubroutine addr s).readByte k =
      if k = s.sp - 2 then loByte s.pc else if k = s.sp - 1 then hiByte s.pc else s.readByte k := by
  rw [callSubroutine, State.setPc_readByte, State.pushByte, State.readByte_writeByte, State.setSp_readByte,
    State.pushByte, State.readByte_writeByte, State.setSp_readByte]
  simp only [State.writeByte_sp, State.setSp_sp, sub_two]

@[simp] theorem callSubroutine_sp (addr : Word) (s : State) : (callSubroutine addr s).sp = s.sp - 2 := sub_two s.sp

/-! ### Arithmetic of the rotates and of DAA -/

/-- A fact of every byte and every Boolean, by their 512 values. -/
theorem forall_byte_bool {P : Byte → Bool → Prop} (h : ∀ (n : Fin 256) (x : Bool), P (BitVec.ofFin n) x) (v : Byte)
    (x : Bool) : P v x := h v.toFin x

/-- R172, R174. -/
theorem shiftLeft_toNat : ∀ (v : Byte) (x : Bool),
    ((v <<< 1) ||| bitByte x).toNat = (2 * v.toNat) % 256 + x.toNat := forall_byte_bool (by decide +kernel)

/-- R173, R175. -/
theorem shiftRight_toNat : ∀ (v : Byte) (x : Bool),
    ((v >>> 1) ||| (bitByte x <<< 7)).toNat = v.toNat / 2 + 128 * x.toNat := forall_byte_bool (by decide +kernel)

theorem bit7_toNat (v : Byte) : (v.getLsbD 7).toNat = v.toNat / 128 :=
  forall_byte_bool (P := fun v _ => (v.getLsbD 7).toNat = v.toNat / 128) (by decide +kernel) v true

theorem bit0_toNat (v : Byte) : (v.getLsbD 0).toNat = v.toNat % 2 :=
  forall_byte_bool (P := fun v _ => (v.getLsbD 0).toNat = v.toNat % 2) (by decide +kernel) v true

/-- R149: the correction byte is the sum of its two parts, since they share no bit. -/
theorem daaCorrection_toNat (s : State) :
    (daaCorrection s).toNat = (if daaLow s = true then 0x06 else 0) + (if daaHigh s = true then 0x60 else 0) := by
  unfold daaCorrection
  cases daaLow s <;> cases daaHigh s <;> rfl

/-- R149: "else the prior CY" is 0, so CY is whether the high correction applied. -/
theorem daaHigh_or_carry (s : State) : (daaHigh s || s.flag .cy) = daaHigh s := by
  rw [daaHigh, Bool.or_assoc, Bool.or_self]

/-! ### Parity (R11) -/

theorem evenBits_eq_parity8 (v : Byte) : evenBits v = parity8 v :=
  forall_byte_bool (P := fun v _ => evenBits v = parity8 v) (by decide +kernel) v true

end Sys2Proof.Machine
end

