-- ==== Sys2Proof/Laws/HostInterface.lean ====
section
/-! SUPPORT. Creation, load and the host's word: what each leaves as it was, that each keeps the canonical form of memory,
and which cells a load writes. -/

namespace Sys2Proof.Machine

/-- Memory right after creation lists nothing, for any launch input. -/
theorem State.mem_wf_create (r : ResetRegs) (c : Config) : (State.create r c).mem.wf := Memory.wf_nil

theorem State.mem_wf_reset : State.reset.mem.wf := Memory.wf_nil

/-! ### Load (R234, R235) -/

/-- A load changes memory alone (R237). -/
theorem State.loadFrom_eq (s : State) (i : Nat) (bytes : List Byte) :
    s.loadFrom i bytes = { s with mem := (s.loadFrom i bytes).mem } := by
  induction bytes generalizing s i with
  | nil => rfl
  | cons v rest ih =>
    rw [State.loadFrom, ih (s.writeByte (BitVec.ofNat 16 i) v) (i + 1)]
    rfl

theorem State.mem_wf_loadFrom {s : State} (h : s.mem.wf) (i : Nat) (bytes : List Byte) :
    (s.loadFrom i bytes).mem.wf := by
  induction bytes generalizing s i with
  | nil => exact h
  | cons v rest ih => exact ih (State.mem_wf_writeByte h (BitVec.ofNat 16 i) v) (i + 1)

theorem State.mem_wf_load {s : State} (h : s.mem.wf) (bytes : List Byte) : (s.load bytes).mem.wf := by
  unfold State.load
  split <;> exact State.mem_wf_loadFrom h 0 _

/-- Each further byte of an input is written after the ones before it (R235). -/
theorem State.loadFrom_append (s : State) (i : Nat) (xs ys : List Byte) :
    s.loadFrom i (xs ++ ys) = (s.loadFrom i xs).loadFrom (i + xs.length) ys := by
  induction xs generalizing s i with
  | nil => rfl
  | cons v rest ih =>
    rw [List.cons_append, State.loadFrom, ih, State.loadFrom, List.length_cons]
    congr 1
    omega

/-- A load that stays inside memory: byte `k` of the input is at address `i + k`, every other cell as before (R234). -/
theorem State.readByte_loadFrom (s : State) (i : Nat) (bytes : List Byte) (h : i + bytes.length ≤ 65536) (addr : Word) :
    (s.loadFrom i bytes).readByte addr =
      if i ≤ addr.toNat then (bytes[addr.toNat - i]?).getD (s.readByte addr) else s.readByte addr := by
  induction bytes generalizing s i with
  | nil => simp [State.loadFrom]
  | cons v rest ih =>
    rw [List.length_cons] at h
    rw [State.loadFrom, ih _ _ (by omega), State.readByte_writeByte]
    have heq : addr = BitVec.ofNat 16 i ↔ addr.toNat = i := by
      rw [← BitVec.toNat_inj, BitVec.toNat_ofNat, Nat.mod_eq_of_lt (by omega)]
    rcases Nat.lt_trichotomy addr.toNat i with hlt | he | hgt
    · rw [if_neg (by omega), if_neg (by rw [heq]; omega), if_neg (by omega)]
    · rw [if_neg (by omega), if_pos (heq.mpr he), if_pos (by omega), he, Nat.sub_self]
      rfl
    · rw [if_pos (by omega), if_neg (by rw [heq]; omega), if_pos (by omega),
        show addr.toNat - i = (addr.toNat - (i + 1)) + 1 by omega, List.getElem?_cons_succ]

/-! ### A load that fails (R236) -/

/-- A failed load changes memory and the counter of free values alone. -/
theorem State.scramble_eq (s : State) (i n : Nat) :
    s.scramble i n = { s with mem := (s.scramble i n).mem, free := (s.scramble i n).free } := by
  induction n generalizing s i with
  | zero => rfl
  | succ n ih =>
    rw [State.scramble, ih _ (i + 1)]
    rfl

theorem State.mem_wf_scramble {s : State} (h : s.mem.wf) (i n : Nat) : (s.scramble i n).mem.wf := by
  induction n generalizing s i with
  | zero => exact h
  | succ n ih =>
    exact ih (s := (s.writeByte (BitVec.ofNat 16 i) s.nextFree).useFree)
      (State.mem_wf_writeByte h (BitVec.ofNat 16 i) s.nextFree) (i + 1)

/-- Cells past those that it could have reached stay. -/
theorem State.readByte_scramble (s : State) (i n : Nat) (h : i + n ≤ 65536) (addr : Word) (ha : i + n ≤ addr.toNat) :
    (s.scramble i n).readByte addr = s.readByte addr := by
  induction n generalizing s i with
  | zero => rfl
  | succ n ih =>
    rw [State.scramble, ih _ (i + 1) (by omega) (by omega), State.useFree_readByte, State.readByte_writeByte,
      if_neg]
    rw [← BitVec.toNat_inj, BitVec.toNat_ofNat, Nat.mod_eq_of_lt (by omega)]
    omega

/-! ### The host's word -/

theorem State.mem_wf_withFetchWord {s : State} (h : s.mem.wf) (nbits w : Nat) : (s.withFetchWord nbits w).mem.wf :=
  State.mem_wf_writeByte (State.mem_wf_writeByte (State.mem_wf_writeByte h _ _) _ _) _ _

/-- The next step fetches what the default build's decoder reads from the word. -/
theorem State.fetch_withFetchWord (s : State) (nbits w : Nat) :
    (s.withFetchWord nbits w).fetch =
      decodeInstr s.config (tableByte nbits w 0) (tableByte nbits w 1) (tableByte nbits w 2) := by
  have h1 : s.pc ≠ s.pc + 1 := by bv_omega
  have h2 : s.pc ≠ s.pc + 2 := by bv_omega
  have h3 : s.pc + 1 ≠ s.pc + 2 := by bv_omega
  have h : ∀ k, (s.withFetchWord nbits w).readByte k = (s.placeWord nbits w).readByte k := fun _ => rfl
  rw [State.fetch, h, h, h, show (s.withFetchWord nbits w).pc = s.pc from rfl,
    show (s.withFetchWord nbits w).config = s.config from rfl]
  simp only [State.placeWord, State.readByte_writeByte, if_neg h1, if_neg h2, if_neg h3, if_true]

end Sys2Proof.Machine
end

