-- ==== Sys2Proof/Tests/Slice0.lean ====
section
/-! SUPPORT. Tests, each about one step or one word. Expected results are the spec's: opcode_table.json and the map of
30_encoding.md R91 for words, lengths and counts; the vectors V<n> and examples W<n> of 95_test_vectors.md for steps.
The last part gives, for each statement of Obligations.lean with hypotheses or with clauses, a case that meets them. -/

open Sys2Proof Sys2Proof.Machine

namespace Sys2Proof.Tests

/-! ### Well-formedness: what each check refuses, and what it lets through -/

/-- A build without ADD B (R86: fewer opcodes). -/
def withoutAddB : Config := { defaultConfig with removed := [0x80] }

theorem test_wf_refuses_trap_of_implemented_opcode : WellFormed defaultConfig (.unimplemented 0x06) = false := by
  decide
theorem test_wf_refuses_removed_instruction : WellFormed withoutAddB .addB = false := by decide
theorem test_wf_accepts : WellFormed defaultConfig .addB = true ∧
    WellFormed defaultConfig (.unimplemented 0x76) = true ∧
    WellFormed withoutAddB (.unimplemented 0x80) = true := by decide

/-! ### Decoding: every byte of the opcode map (R91, opcode_table.json) -/

/-- A row of the table: the bits of a word (first byte lowest), the instruction, its length and its count. -/
def Row := Nat × Instr × Nat × Nat

/-- The default build's decoder, length and count agree with the row. -/
def Row.holds : Row → Bool
  | (w, i, len, cyc) => decodeTableWord (8 * len) w == some i && i.length == len && opcodeLength i.opcode == len &&
      defaultConfig.cyclesOf i.opcode == cyc && WellFormed defaultConfig i

def rows00 : List Row := [
  (0x123400 + 0b00000001, .lxiB 0x1234, 3, 3), (0b00000010, .staxB, 1, 2), (0b00000011, .inxB, 1, 1),
  (0b00000100, .inrB, 1, 1), (0b00000101, .dcrB, 1, 1), (0xA500 + 0b00000110, .mviB 0xA5, 2, 2),
  (0b00000111, .rlc, 1, 1), (0b00001001, .dadB, 1, 3), (0b00001010, .ldaxB, 1, 2), (0b00001011, .dcxB, 1, 1),
  (0b00001100, .inrC, 1, 1), (0b00001101, .dcrC, 1, 1), (0xA500 + 0b00001110, .mviC 0xA5, 2, 2),
  (0b00001111, .rrc, 1, 1)]
theorem test_rows_00 : rows00.all Row.holds = true := by decide +kernel
def rows10 : List Row := [
  (0x123400 + 0b00010001, .lxiD 0x1234, 3, 3), (0b00010010, .staxD, 1, 2), (0b00010011, .inxD, 1, 1),
  (0b00010100, .inrD, 1, 1), (0b00010101, .dcrD, 1, 1), (0xA500 + 0b00010110, .mviD 0xA5, 2, 2),
  (0b00010111, .ral, 1, 1), (0b00011001, .dadD, 1, 3), (0b00011010, .ldaxD, 1, 2), (0b00011011, .dcxD, 1, 1),
  (0b00011100, .inrE, 1, 1), (0b00011101, .dcrE, 1, 1), (0xA500 + 0b00011110, .mviE 0xA5, 2, 2),
  (0b00011111, .rar, 1, 1)]
theorem test_rows_10 : rows10.all Row.holds = true := by decide +kernel
def rows20 : List Row := [
  (0x123400 + 0b00100001, .lxiH 0x1234, 3, 3), (0x123400 + 0b00100010, .shld 0x1234, 3, 5),
  (0b00100011, .inxH, 1, 1), (0b00100100, .inrH, 1, 1), (0b00100101, .dcrH, 1, 1),
  (0xA500 + 0b00100110, .mviH 0xA5, 2, 2), (0b00100111, .daa, 1, 1), (0b00101001, .dadH, 1, 3),
  (0x123400 + 0b00101010, .lhld 0x1234, 3, 5), (0b00101011, .dcxH, 1, 1), (0b00101100, .inrL, 1, 1),
  (0b00101101, .dcrL, 1, 1), (0xA500 + 0b00101110, .mviL 0xA5, 2, 2), (0b00101111, .cma, 1, 1)]
theorem test_rows_20 : rows20.all Row.holds = true := by decide +kernel
def rows30 : List Row := [
  (0x123400 + 0b00110001, .lxiSP 0x1234, 3, 3), (0x123400 + 0b00110010, .sta 0x1234, 3, 4),
  (0b00110011, .inxSP, 1, 1), (0b00110100, .inrM, 1, 3), (0b00110101, .dcrM, 1, 3),
  (0xA500 + 0b00110110, .mviM 0xA5, 2, 3), (0b00110111, .stc, 1, 1), (0b00111001, .dadSP, 1, 3),
  (0x123400 + 0b00111010, .lda 0x1234, 3, 4), (0b00111011, .dcxSP, 1, 1), (0b00111100, .inrA, 1, 1),
  (0b00111101, .dcrA, 1, 1), (0xA500 + 0b00111110, .mviA 0xA5, 2, 2), (0b00111111, .cmc, 1, 1)]
theorem test_rows_30 : rows30.all Row.holds = true := by decide +kernel
def rows40 : List Row := [
  (0b01000000, .movBB, 1, 1), (0b01000001, .movBC, 1, 1), (0b01000010, .movBD, 1, 1), (0b01000011, .movBE, 1, 1),
  (0b01000100, .movBH, 1, 1), (0b01000101, .movBL, 1, 1), (0b01000110, .movBM, 1, 2), (0b01000111, .movBA, 1, 1),
  (0b01001000, .movCB, 1, 1), (0b01001001, .movCC, 1, 1), (0b01001010, .movCD, 1, 1), (0b01001011, .movCE, 1, 1),
  (0b01001100, .movCH, 1, 1), (0b01001101, .movCL, 1, 1), (0b01001110, .movCM, 1, 2), (0b01001111, .movCA, 1, 1)]
theorem test_rows_40 : rows40.all Row.holds = true := by decide +kernel
def rows50 : List Row := [
  (0b01010000, .movDB, 1, 1), (0b01010001, .movDC, 1, 1), (0b01010010, .movDD, 1, 1), (0b01010011, .movDE, 1, 1),
  (0b01010100, .movDH, 1, 1), (0b01010101, .movDL, 1, 1), (0b01010110, .movDM, 1, 2), (0b01010111, .movDA, 1, 1),
  (0b01011000, .movEB, 1, 1), (0b01011001, .movEC, 1, 1), (0b01011010, .movED, 1, 1), (0b01011011, .movEE, 1, 1),
  (0b01011100, .movEH, 1, 1), (0b01011101, .movEL, 1, 1), (0b01011110, .movEM, 1, 2), (0b01011111, .movEA, 1, 1)]
theorem test_rows_50 : rows50.all Row.holds = true := by decide +kernel
def rows60 : List Row := [
  (0b01100000, .movHB, 1, 1), (0b01100001, .movHC, 1, 1), (0b01100010, .movHD, 1, 1), (0b01100011, .movHE, 1, 1),
  (0b01100100, .movHH, 1, 1), (0b01100101, .movHL, 1, 1), (0b01100110, .movHM, 1, 2), (0b01100111, .movHA, 1, 1),
  (0b01101000, .movLB, 1, 1), (0b01101001, .movLC, 1, 1), (0b01101010, .movLD, 1, 1), (0b01101011, .movLE, 1, 1),
  (0b01101100, .movLH, 1, 1), (0b01101101, .movLL, 1, 1), (0b01101110, .movLM, 1, 2), (0b01101111, .movLA, 1, 1)]
theorem test_rows_60 : rows60.all Row.holds = true := by decide +kernel
def rows70 : List Row := [
  (0b01110000, .movMB, 1, 2), (0b01110001, .movMC, 1, 2), (0b01110010, .movMD, 1, 2), (0b01110011, .movME, 1, 2),
  (0b01110100, .movMH, 1, 2), (0b01110101, .movML, 1, 2), (0b01110111, .movMA, 1, 2), (0b01111000, .movAB, 1, 1),
  (0b01111001, .movAC, 1, 1), (0b01111010, .movAD, 1, 1), (0b01111011, .movAE, 1, 1), (0b01111100, .movAH, 1, 1),
  (0b01111101, .movAL, 1, 1), (0b01111110, .movAM, 1, 2), (0b01111111, .movAA, 1, 1)]
theorem test_rows_70 : rows70.all Row.holds = true := by decide +kernel
def rows80 : List Row := [
  (0b10000000, .addB, 1, 1), (0b10000001, .addC, 1, 1), (0b10000010, .addD, 1, 1), (0b10000011, .addE, 1, 1),
  (0b10000100, .addH, 1, 1), (0b10000101, .addL, 1, 1), (0b10000110, .addM, 1, 2), (0b10000111, .addA, 1, 1),
  (0b10001000, .adcB, 1, 1), (0b10001001, .adcC, 1, 1), (0b10001010, .adcD, 1, 1), (0b10001011, .adcE, 1, 1),
  (0b10001100, .adcH, 1, 1), (0b10001101, .adcL, 1, 1), (0b10001110, .adcM, 1, 2), (0b10001111, .adcA, 1, 1)]
theorem test_rows_80 : rows80.all Row.holds = true := by decide +kernel
def rows90 : List Row := [
  (0b10010000, .subB, 1, 1), (0b10010001, .subC, 1, 1), (0b10010010, .subD, 1, 1), (0b10010011, .subE, 1, 1),
  (0b10010100, .subH, 1, 1), (0b10010101, .subL, 1, 1), (0b10010110, .subM, 1, 2), (0b10010111, .subA, 1, 1),
  (0b10011000, .sbbB, 1, 1), (0b10011001, .sbbC, 1, 1), (0b10011010, .sbbD, 1, 1), (0b10011011, .sbbE, 1, 1),
  (0b10011100, .sbbH, 1, 1), (0b10011101, .sbbL, 1, 1), (0b10011110, .sbbM, 1, 2), (0b10011111, .sbbA, 1, 1)]
theorem test_rows_90 : rows90.all Row.holds = true := by decide +kernel
def rowsA0 : List Row := [
  (0b10100000, .anaB, 1, 1), (0b10100001, .anaC, 1, 1), (0b10100010, .anaD, 1, 1), (0b10100011, .anaE, 1, 1),
  (0b10100100, .anaH, 1, 1), (0b10100101, .anaL, 1, 1), (0b10100110, .anaM, 1, 2), (0b10100111, .anaA, 1, 1),
  (0b10101000, .xraB, 1, 1), (0b10101001, .xraC, 1, 1), (0b10101010, .xraD, 1, 1), (0b10101011, .xraE, 1, 1),
  (0b10101100, .xraH, 1, 1), (0b10101101, .xraL, 1, 1), (0b10101110, .xraM, 1, 2), (0b10101111, .xraA, 1, 1)]
theorem test_rows_A0 : rowsA0.all Row.holds = true := by decide +kernel
def rowsB0 : List Row := [
  (0b10110000, .oraB, 1, 1), (0b10110001, .oraC, 1, 1), (0b10110010, .oraD, 1, 1), (0b10110011, .oraE, 1, 1),
  (0b10110100, .oraH, 1, 1), (0b10110101, .oraL, 1, 1), (0b10110110, .oraM, 1, 2), (0b10110111, .oraA, 1, 1),
  (0b10111000, .cmpB, 1, 1), (0b10111001, .cmpC, 1, 1), (0b10111010, .cmpD, 1, 1), (0b10111011, .cmpE, 1, 1),
  (0b10111100, .cmpH, 1, 1), (0b10111101, .cmpL, 1, 1), (0b10111110, .cmpM, 1, 2), (0b10111111, .cmpA, 1, 1)]
theorem test_rows_B0 : rowsB0.all Row.holds = true := by decide +kernel
def rowsC0 : List Row := [
  (0x123400 + 0b11000010, .jnz 0x1234, 3, 3), (0x123400 + 0b11000011, .jmp 0x1234, 3, 3),
  (0xA500 + 0b11000110, .adi 0xA5, 2, 2), (0b11001001, .ret, 1, 3), (0x123400 + 0b11001010, .jz 0x1234, 3, 3),
  (0x123400 + 0b11001101, .call 0x1234, 3, 5), (0xA500 + 0b11001110, .aci 0xA5, 2, 2)]
theorem test_rows_C0 : rowsC0.all Row.holds = true := by decide +kernel
def rowsD0 : List Row := [
  (0x123400 + 0b11010010, .jnc 0x1234, 3, 3), (0xA500 + 0b11010110, .sui 0xA5, 2, 2),
  (0x123400 + 0b11011010, .jc 0x1234, 3, 3), (0xA500 + 0b11011110, .sbi 0xA5, 2, 2)]
theorem test_rows_D0 : rowsD0.all Row.holds = true := by decide +kernel
def rowsE0 : List Row := [
  (0x123400 + 0b11100010, .jpo 0x1234, 3, 3), (0xA500 + 0b11100110, .ani 0xA5, 2, 2),
  (0x123400 + 0b11101010, .jpe 0x1234, 3, 3), (0b11101011, .xchg, 1, 1), (0xA500 + 0b11101110, .xri 0xA5, 2, 2)]
theorem test_rows_E0 : rowsE0.all Row.holds = true := by decide +kernel
def rowsF0 : List Row := [
  (0x123400 + 0b11110010, .jp 0x1234, 3, 3), (0xA500 + 0b11110110, .ori 0xA5, 2, 2),
  (0x123400 + 0b11111010, .jm 0x1234, 3, 3), (0xA500 + 0b11111110, .cpi 0xA5, 2, 2)]
theorem test_rows_F0 : rowsF0.all Row.holds = true := by decide +kernel

/-- The 53 bytes of R87. -/
def unimplementedBytes : List Byte :=
  [0x00, 0x08, 0x10, 0x18, 0x20, 0x28, 0x30, 0x38, 0x76, 0xC0, 0xC1, 0xC4, 0xC5, 0xC7, 0xC8, 0xCB, 0xCC, 0xCF, 0xD0,
   0xD1, 0xD3, 0xD4, 0xD5, 0xD7, 0xD8, 0xD9, 0xDB, 0xDC, 0xDD, 0xDF, 0xE0, 0xE1, 0xE3, 0xE4, 0xE5, 0xE7, 0xE8, 0xE9,
   0xEC, 0xED, 0xEF, 0xF0, 0xF1, 0xF3, 0xF4, 0xF5, 0xF7, 0xF8, 0xF9, 0xFB, 0xFC, 0xFD, 0xFF]

theorem test_rows_unimplemented : unimplementedBytes.length = 53 ∧ unimplementedBytes.all
    (fun op => decodeTableWord 8 op.toNat == some (.unimplemented op) && (Instr.unimplemented op).length == 1) =
      true := by
  decide +kernel

/-- R76, R86: 203 opcodes, of which 16 of two bytes and 18 of three. -/
theorem test_counts : ((List.range 256).countP (fun n => defaultImplemented (BitVec.ofNat 8 n)) = 203) ∧
    ((List.range 256).countP (fun n => opcodeLength (BitVec.ofNat 8 n) == 2) = 16) ∧
    ((List.range 256).countP (fun n => opcodeLength (BitVec.ofNat 8 n) == 3) = 18) := by
  decide +kernel

/-! ### Single steps: the vectors of the spec -/

/-- The state that a vector starts from: every register and flag 0, the padding bits 1, 3, 5 set, `bytes` at `pc0` and
after it, and the cells listed. -/
def start (pc0 : Word) (bytes : List Byte) (cells : List (Word × Byte)) : State :=
  let s := { State.reset with pc := pc0, f := 0x2A }
  let s := (bytes.zipIdx).foldl (fun s x => s.writeByte (pc0 + BitVec.ofNat 16 x.2) x.1) s
  cells.foldl (fun s x => s.writeByte x.1 x.2) s

/-- The state after one step, if there is one. -/
def after (s : State) : Option State :=
  match step s with
  | .next t => some t
  | .fault _ => none
  | .refused _ => none

/-- V1: MOV B,C -/
theorem test_V1_mov_b_c :
    let s : State := { start 0x0000 [0x41] [] with b := 0x12, c := 0x00 }
    after s = some { s with f := 0x2A, b := 0x00, pc := 0x0001, cycles := some 1 } := by
  decide
/-- V4: MOV H,M: address from the old HL -/
theorem test_V4_mov_h_m :
    let s : State := { start 0x0000 [0x66] [(0x2000, 0x5A)] with h := 0x20, l := 0x00 }
    after s = some { s with f := 0x2A, h := 0x5A, pc := 0x0001, cycles := some 2 } := by
  decide
/-- V6: MOV M,H stores H at HL -/
theorem test_V6_mov_m_h :
    let s : State := { start 0x0000 [0x74] [] with h := 0x12, l := 0x34 }
    after s = some { s with f := 0x2A, pc := 0x0001, cycles := some 2, mem := [(0x0000, 0x74), (0x1234, 0x12)] } := by
  decide
/-- V8: MVI C at pc0=0xFFFF: data byte at 0x0000, PC wraps -/
theorem test_V8_mvi_c_wraps :
    let s : State := start 0xFFFF [0x0E] [(0x0000, 0x77)]
    after s = some { s with f := 0x2A, c := 0x77, pc := 0x0001, cycles := some 2 } := by
  decide
/-- V9: MVI M -/
theorem test_V9_mvi_m :
    let s : State := { start 0x0000 [0x36, 0xAB] [] with h := 0x40, l := 0x00 }
    after s = some { s with
      f := 0x2A, pc := 0x0002, cycles := some 3, mem := [(0x0000, 0x36), (0x0001, 0xAB), (0x4000, 0xAB)] } := by
  decide
/-- V10: LXI SP -/
theorem test_V10_lxi_sp :
    let s : State := start 0x0000 [0x31, 0xCD, 0xAB] []
    after s = some { s with f := 0x2A, sp := 0xABCD, pc := 0x0003, cycles := some 3 } := by
  decide
/-- V11: LXI B straddling 0xFFFF: high byte at 0x0000 -/
theorem test_V11_lxi_b_wraps :
    let s : State := start 0xFFFE [0x01, 0x34] [(0x0000, 0x12)]
    after s = some { s with f := 0x2A, b := 0x12, c := 0x34, pc := 0x0001, cycles := some 3 } := by
  decide
/-- V12: LDA 0xFFFF -/
theorem test_V12_lda :
    let s : State := start 0x0000 [0x3A, 0xFF, 0xFF] [(0xFFFF, 0x42)]
    after s = some { s with f := 0x2A, a := 0x42, pc := 0x0003, cycles := some 4 } := by
  decide
/-- V13: STA over its own (already read) operand byte -/
theorem test_V13_sta :
    let s : State := { start 0x0000 [0x32, 0x01, 0x00] [] with a := 0x55 }
    after s = some { s with f := 0x2A, pc := 0x0003, cycles := some 4, mem := [(0x0000, 0x32), (0x0001, 0x55)] } := by
  decide
/-- V14: LDAX B -/
theorem test_V14_ldax_b :
    let s : State := { start 0x0000 [0x0A] [(0x1000, 0x3C)] with b := 0x10, c := 0x00 }
    after s = some { s with f := 0x2A, a := 0x3C, pc := 0x0001, cycles := some 2 } := by
  decide
/-- V15: STAX D -/
theorem test_V15_stax_d :
    let s : State := { start 0x0000 [0x12] [] with a := 0xA5, d := 0x10, e := 0x01 }
    after s = some { s with f := 0x2A, pc := 0x0001, cycles := some 2, mem := [(0x0000, 0x12), (0x1001, 0xA5)] } := by
  decide
/-- V16: LHLD 0xFFFF: L from 0xFFFF, H from 0x0000 -/
theorem test_V16_lhld_wraps :
    let s : State := start 0x0100 [0x2A, 0xFF, 0xFF] [(0xFFFF, 0x78), (0x0000, 0x56)]
    after s = some { s with f := 0x2A, h := 0x56, l := 0x78, pc := 0x0103, cycles := some 5 } := by
  decide
/-- V17: SHLD 0xFFFF: L to 0xFFFF, H to 0x0000 -/
theorem test_V17_shld_wraps :
    let s : State := { start 0x0100 [0x22, 0xFF, 0xFF] [] with h := 0xBE, l := 0xEF }
    after s = some { s with
      f := 0x2A, pc := 0x0103, cycles := some 5,
      mem := [(0x0000, 0xBE), (0x0100, 0x22), (0x0101, 0xFF), (0x0102, 0xFF), (0xFFFF, 0xEF)] } := by
  decide
/-- V18: XCHG -/
theorem test_V18_xchg :
    let s : State := { start 0x0000 [0xEB] [] with d := 0x11, e := 0x22, h := 0x33, l := 0x44 }
    after s = some { s with
      f := 0x2A, d := 0x33, e := 0x44, h := 0x11, l := 0x22, pc := 0x0001, cycles := some 1 } := by
  decide
/-- V19: ADD B: 0x80+0x80 -/
theorem test_V19_add_b :
    let s : State := { start 0x0000 [0x80] [] with a := 0x80, b := 0x80 }
    after s = some { s with f := 0x6F, a := 0x00, pc := 0x0001, cycles := some 1 } := by
  decide
/-- V20: ADD A doubles A -/
theorem test_V20_add_a :
    let s : State := { start 0x0000 [0x87] [] with a := 0x88 }
    after s = some { s with f := 0x3B, a := 0x10, pc := 0x0001, cycles := some 1 } := by
  decide
/-- V22: ADI 1 to 0xFF -/
theorem test_V22_adi :
    let s : State := { start 0x0000 [0xC6, 0x01] [] with a := 0xFF }
    after s = some { s with f := 0x7F, a := 0x00, pc := 0x0002, cycles := some 2 } := by
  decide
/-- V23: ADD M: 0x01+0x7F -/
theorem test_V23_add_m :
    let s : State := { start 0x0000 [0x86] [(0x2000, 0x7F)] with a := 0x01, h := 0x20, l := 0x00 }
    after s = some { s with f := 0xBA, a := 0x80, pc := 0x0001, cycles := some 2 } := by
  decide
/-- V25: ADC A: 2A+CY -/
theorem test_V25_adc_a :
    let s : State := { start 0x0000 [0x8F] [] with a := 0x80, f := 0x2B }
    after s = some { s with f := 0x2B, a := 0x01, pc := 0x0001, cycles := some 1 } := by
  decide
/-- V26: ADC M: nibble carry from carry-in -/
theorem test_V26_adc_m :
    let s : State := { start 0x0000 [0x8E] [(0x2000, 0x0F)] with a := 0x10, h := 0x20, l := 0x00, f := 0x2B }
    after s = some { s with f := 0x3A, a := 0x20, pc := 0x0001, cycles := some 2 } := by
  decide
/-- V27: ACI 0x7F with CY=1 -/
theorem test_V27_aci :
    let s : State := { start 0x0000 [0xCE, 0x7F] [] with a := 0x00, f := 0x2B }
    after s = some { s with f := 0xBA, a := 0x80, pc := 0x0002, cycles := some 2 } := by
  decide
/-- V28: SUB A -/
theorem test_V28_sub_a :
    let s : State := { start 0x0000 [0x97] [] with a := 0x3E }
    after s = some { s with f := 0x6E, a := 0x00, pc := 0x0001, cycles := some 1 } := by
  decide
/-- V30: SUB B: nibble borrow only -/
theorem test_V30_sub_b :
    let s : State := { start 0x0000 [0x90] [] with a := 0x10, b := 0x01 }
    after s = some { s with f := 0x3E, a := 0x0F, pc := 0x0001, cycles := some 1 } := by
  decide
/-- V31: SUB M -/
theorem test_V31_sub_m :
    let s : State := { start 0x0000 [0x96] [(0x2000, 0x20)] with a := 0x30, h := 0x20, l := 0x00 }
    after s = some { s with f := 0x2A, a := 0x10, pc := 0x0001, cycles := some 2 } := by
  decide
/-- V32: SUI 0x80 -/
theorem test_V32_sui :
    let s : State := { start 0x0000 [0xD6, 0x80] [] with a := 0x7F }
    after s = some { s with f := 0xAF, a := 0xFF, pc := 0x0002, cycles := some 2 } := by
  decide
/-- V33: SBB B: b+bin=0x100 unwrapped, CY=1, literal AC -/
theorem test_V33_sbb_b :
    let s : State := { start 0x0000 [0x98] [] with a := 0x37, b := 0xFF, f := 0x2B }
    after s = some { s with f := 0x2B, pc := 0x0001, cycles := some 1 } := by
  decide
/-- V34: same with SUB_AC_READING=nibble -/
theorem test_V34_sbb_b_nibble :
    let s : State := { start 0x0000 [0x98] [] with
      a := 0x37, b := 0xFF, f := 0x2B, config := { defaultConfig with subAc := .nibble } }
    after s = some { s with f := 0x3B, pc := 0x0001, cycles := some 1 } := by
  decide
/-- V36: SBB A with CY=1, low nibble 0xF -/
theorem test_V36_sbb_a :
    let s : State := { start 0x0000 [0x9F] [] with a := 0x0F, f := 0x2B }
    after s = some { s with f := 0xAF, a := 0xFF, pc := 0x0001, cycles := some 1 } := by
  decide
/-- V37: SBB M: 0-0 -/
theorem test_V37_sbb_m :
    let s : State := { start 0x0000 [0x9E] [(0x2000, 0x00)] with a := 0x00, h := 0x20, l := 0x00, f := 0x2A }
    after s = some { s with f := 0x6E, pc := 0x0001, cycles := some 2 } := by
  decide
/-- V38: SBI 0x0F with CY=1, literal AC -/
theorem test_V38_sbi :
    let s : State := { start 0x0000 [0xDE, 0x0F] [] with a := 0x20, f := 0x2B }
    after s = some { s with f := 0x2A, a := 0x10, pc := 0x0002, cycles := some 2 } := by
  decide
/-- V39: same with SUB_AC_READING=nibble -/
theorem test_V39_sbi_nibble :
    let s : State := { start 0x0000 [0xDE, 0x0F] [] with
      a := 0x20, f := 0x2B, config := { defaultConfig with subAc := .nibble } }
    after s = some { s with f := 0x3A, a := 0x10, pc := 0x0002, cycles := some 2 } := by
  decide
/-- V40: INR A: 0xFF wraps, CY kept -/
theorem test_V40_inr_a :
    let s : State := { start 0x0000 [0x3C] [] with a := 0xFF, f := 0x2A }
    after s = some { s with f := 0x7E, a := 0x00, pc := 0x0001, cycles := some 1 } := by
  decide
/-- V42: INR M at 0xFF -/
theorem test_V42_inr_m :
    let s : State := { start 0x0000 [0x34] [(0x2000, 0xFF)] with h := 0x20, l := 0x00, f := 0x2B }
    after s = some { s with f := 0x7F, pc := 0x0001, cycles := some 3, mem := [(0x0000, 0x34)] } := by
  decide
/-- V43: DCR B: 0x00 wraps to 0xFF, CY kept -/
theorem test_V43_dcr_b :
    let s : State := { start 0x0000 [0x05] [] with b := 0x00, f := 0x2B }
    after s = some { s with f := 0xBF, b := 0xFF, pc := 0x0001, cycles := some 1 } := by
  decide
/-- V46: DCR M -/
theorem test_V46_dcr_m :
    let s : State := { start 0x0000 [0x35] [(0x2000, 0x80)] with h := 0x20, l := 0x00 }
    after s = some { s with f := 0x3A, pc := 0x0001, cycles := some 3, mem := [(0x0000, 0x35), (0x2000, 0x7F)] } := by
  decide
/-- V47: INX B wraps, no flag written -/
theorem test_V47_inx_b :
    let s : State := { start 0x0000 [0x03] [] with b := 0xFF, c := 0xFF, f := 0x2B }
    after s = some { s with f := 0x2B, b := 0x00, c := 0x00, pc := 0x0001, cycles := some 1 } := by
  decide
/-- V48: INX SP wraps -/
theorem test_V48_inx_sp :
    let s : State := { start 0x0000 [0x33] [] with sp := 0xFFFF }
    after s = some { s with f := 0x2A, sp := 0x0000, pc := 0x0001, cycles := some 1 } := by
  decide
/-- V49: DCX D 0x0000 to 0xFFFF -/
theorem test_V49_dcx_d :
    let s : State := start 0x0000 [0x1B] []
    after s = some { s with f := 0x2A, d := 0xFF, e := 0xFF, pc := 0x0001, cycles := some 1 } := by
  decide
/-- V50: DCX SP -/
theorem test_V50_dcx_sp :
    let s : State := { start 0x0000 [0x3B] [] with sp := 0x0000 }
    after s = some { s with f := 0x2A, sp := 0xFFFF, pc := 0x0001, cycles := some 1 } := by
  decide
/-- V51: DAD B, the document's DAD example -/
theorem test_V51_dad_b :
    let s : State := { start 0x0000 [0x09] [] with h := 0xFF, l := 0xFF, b := 0x00, c := 0x01 }
    after s = some { s with f := 0x2B, h := 0x00, l := 0x00, pc := 0x0001, cycles := some 3 } := by
  decide
/-- V53: DAD SP without carry clears CY -/
theorem test_V53_dad_sp :
    let s : State := { start 0x0000 [0x39] [] with h := 0x12, l := 0x34, sp := 0x1111, f := 0x2B }
    after s = some { s with f := 0x2A, h := 0x23, l := 0x45, pc := 0x0001, cycles := some 3 } := by
  decide
/-- V54: DAD D writes only CY -/
theorem test_V54_dad_d :
    let s : State := { start 0x0000 [0x19] [] with h := 0x00, l := 0x01, d := 0xFF, e := 0xFF, f := 0xFE }
    after s = some { s with f := 0xFF, l := 0x00, pc := 0x0001, cycles := some 3 } := by
  decide
/-- V55: both nibbles adjusted -/
theorem test_V55_daa :
    let s : State := { start 0x0000 [0x27] [] with a := 0x9B }
    after s = some { s with f := 0x3B, a := 0x01, pc := 0x0001, cycles := some 1 } := by
  decide
/-- V57: AC in: low nibble +6 -/
theorem test_V57_daa_ac :
    let s : State := { start 0x0000 [0x27] [] with a := 0x15, f := 0x3A }
    after s = some { s with f := 0x2E, a := 0x1B, pc := 0x0001, cycles := some 1 } := by
  decide
/-- V63: ANA C: zero result; AC = bit 2 of (A OR C) = 1 (ANA_AC_RULE=bit2_or) -/
theorem test_V63_ana_c :
    let s : State := { start 0x0000 [0xA1] [] with a := 0xF0, c := 0x0F }
    after s = some { s with f := 0x7E, a := 0x00, pc := 0x0001, cycles := some 1 } := by
  decide
/-- V66: same with ANA_AC_RULE=bit3_or: AC=1 -/
theorem test_V66_ana_a_bit3 :
    let s : State := { start 0x0000 [0xA7] [] with
      a := 0x08, f := 0x2B, config := { defaultConfig with anaAc := .bit3Or } }
    after s = some { s with f := 0x3A, pc := 0x0001, cycles := some 1 } := by
  decide
/-- V67: ANA M -/
theorem test_V67_ana_m :
    let s : State := { start 0x0000 [0xA6] [(0x2000, 0x04)] with a := 0xFF, h := 0x20, l := 0x00 }
    after s = some { s with f := 0x3A, a := 0x04, pc := 0x0001, cycles := some 2 } := by
  decide
/-- V68: ANI 0x80 -/
theorem test_V68_ani :
    let s : State := { start 0x0000 [0xE6, 0x80] [] with a := 0x81, f := 0x3B }
    after s = some { s with f := 0xAA, a := 0x80, pc := 0x0002, cycles := some 2 } := by
  decide
/-- V69: XRA A clears A, CY and AC -/
theorem test_V69_xra_a :
    let s : State := { start 0x0000 [0xAF] [] with a := 0x5A, f := 0x3B }
    after s = some { s with f := 0x6E, a := 0x00, pc := 0x0001, cycles := some 1 } := by
  decide
/-- V70: XRA M -/
theorem test_V70_xra_m :
    let s : State := { start 0x0000 [0xAE] [(0x2000, 0x0F)] with a := 0xFF, h := 0x20, l := 0x00 }
    after s = some { s with f := 0xAE, a := 0xF0, pc := 0x0001, cycles := some 2 } := by
  decide
/-- V71: XRI 0xFF complements A -/
theorem test_V71_xri :
    let s : State := { start 0x0000 [0xEE, 0xFF] [] with a := 0x0F }
    after s = some { s with f := 0xAE, a := 0xF0, pc := 0x0002, cycles := some 2 } := by
  decide
/-- V72: ORA B of zeros -/
theorem test_V72_ora_b :
    let s : State := { start 0x0000 [0xB0] [] with a := 0x00, b := 0x00, f := 0x2B }
    after s = some { s with f := 0x6E, pc := 0x0001, cycles := some 1 } := by
  decide
/-- V73: ORA M -/
theorem test_V73_ora_m :
    let s : State := { start 0x0000 [0xB6] [(0x2000, 0x02)] with a := 0x01, h := 0x20, l := 0x00 }
    after s = some { s with f := 0x2E, a := 0x03, pc := 0x0001, cycles := some 2 } := by
  decide
/-- V74: ORI 0x01 -/
theorem test_V74_ori :
    let s : State := { start 0x0000 [0xF6, 0x01] [] with a := 0x80 }
    after s = some { s with f := 0xAE, a := 0x81, pc := 0x0002, cycles := some 2 } := by
  decide
/-- V76: CMP B less -/
theorem test_V76_cmp_b :
    let s : State := { start 0x0000 [0xB8] [] with a := 0x41, b := 0x42 }
    after s = some { s with f := 0xBF, pc := 0x0001, cycles := some 1 } := by
  decide
/-- V79: CMP M: flags from the difference 0x01 -/
theorem test_V79_cmp_m :
    let s : State := { start 0x0000 [0xBE] [(0x2000, 0x7F)] with a := 0x80, h := 0x20, l := 0x00 }
    after s = some { s with f := 0x3A, pc := 0x0001, cycles := some 2 } := by
  decide
/-- V80: CPI 1 with A=0 -/
theorem test_V80_cpi :
    let s : State := { start 0x0000 [0xFE, 0x01] [] with a := 0x00 }
    after s = some { s with f := 0xBF, pc := 0x0002, cycles := some 2 } := by
  decide
/-- V82: RLC ignores the old CY -/
theorem test_V82_rlc :
    let s : State := { start 0x0000 [0x07] [] with a := 0x01, f := 0x2B }
    after s = some { s with f := 0x2A, a := 0x02, pc := 0x0001, cycles := some 1 } := by
  decide
/-- V83: RRC 0x01 -/
theorem test_V83_rrc :
    let s : State := { start 0x0000 [0x0F] [] with a := 0x01 }
    after s = some { s with f := 0x2B, a := 0x80, pc := 0x0001, cycles := some 1 } := by
  decide
/-- V85: RAL moves CY into bit 0 -/
theorem test_V85_ral :
    let s : State := { start 0x0000 [0x17] [] with a := 0x00, f := 0x2B }
    after s = some { s with f := 0x2A, a := 0x01, pc := 0x0001, cycles := some 1 } := by
  decide
/-- V87: RAR moves CY into bit 7 -/
theorem test_V87_rar :
    let s : State := { start 0x0000 [0x1F] [] with a := 0x00, f := 0x2B }
    after s = some { s with f := 0x2A, a := 0x80, pc := 0x0001, cycles := some 1 } := by
  decide
/-- V88: CMA writes no flag -/
theorem test_V88_cma :
    let s : State := { start 0x0000 [0x2F] [] with a := 0x00, f := 0xEA }
    after s = some { s with f := 0xEA, a := 0xFF, pc := 0x0001, cycles := some 1 } := by
  decide
/-- V90: CMC 1 to 0, AC untouched -/
theorem test_V90_cmc :
    let s : State := { start 0x0000 [0x3F] [] with f := 0x3B }
    after s = some { s with f := 0x3A, pc := 0x0001, cycles := some 1 } := by
  decide
/-- V91: STC with CY already 1 -/
theorem test_V91_stc :
    let s : State := { start 0x0000 [0x37] [] with f := 0x2B }
    after s = some { s with f := 0x2B, pc := 0x0001, cycles := some 1 } := by
  decide
/-- V93: JMP straddling 0xFFFF: high byte at 0x0000 -/
theorem test_V93_jmp_wraps :
    let s : State := start 0xFFFE [0xC3, 0x00] [(0x0000, 0x80)]
    after s = some { s with f := 0x2A, pc := 0x8000, cycles := some 3 } := by
  decide
/-- V95: JNZ with Z=0 -/
theorem test_V95_jnz_taken :
    let s : State := { start 0x0100 [0xC2, 0x00, 0x40] [] with f := 0x2A }
    after s = some { s with f := 0x2A, pc := 0x4000, cycles := some 3 } := by
  decide
/-- V96: JNZ with Z=1 -/
theorem test_V96_jnz_not :
    let s : State := { start 0x0100 [0xC2, 0x00, 0x40] [] with f := 0x6A }
    after s = some { s with f := 0x6A, pc := 0x0103, cycles := some 3 } := by
  decide
/-- V97: JZ with Z=0 -/
theorem test_V97_jz_not :
    let s : State := { start 0x0100 [0xCA, 0x00, 0x40] [] with f := 0x2A }
    after s = some { s with f := 0x2A, pc := 0x0103, cycles := some 3 } := by
  decide
/-- V98: JZ with Z=1 -/
theorem test_V98_jz_taken :
    let s : State := { start 0x0100 [0xCA, 0x00, 0x40] [] with f := 0x6A }
    after s = some { s with f := 0x6A, pc := 0x4000, cycles := some 3 } := by
  decide
/-- V99: JNC with CY=0 -/
theorem test_V99_jnc_taken :
    let s : State := { start 0x0100 [0xD2, 0x00, 0x40] [] with f := 0x2A }
    after s = some { s with f := 0x2A, pc := 0x4000, cycles := some 3 } := by
  decide
/-- V100: JNC with CY=1 -/
theorem test_V100_jnc_not :
    let s : State := { start 0x0100 [0xD2, 0x00, 0x40] [] with f := 0x2B }
    after s = some { s with f := 0x2B, pc := 0x0103, cycles := some 3 } := by
  decide
/-- V101: JC with CY=0 -/
theorem test_V101_jc_not :
    let s : State := { start 0x0100 [0xDA, 0x00, 0x40] [] with f := 0x2A }
    after s = some { s with f := 0x2A, pc := 0x0103, cycles := some 3 } := by
  decide
/-- V102: JC with CY=1 -/
theorem test_V102_jc_taken :
    let s : State := { start 0x0100 [0xDA, 0x00, 0x40] [] with f := 0x2B }
    after s = some { s with f := 0x2B, pc := 0x4000, cycles := some 3 } := by
  decide
/-- V103: JPO with P=0 -/
theorem test_V103_jpo_taken :
    let s : State := { start 0x0100 [0xE2, 0x00, 0x40] [] with f := 0x2A }
    after s = some { s with f := 0x2A, pc := 0x4000, cycles := some 3 } := by
  decide
/-- V104: JPO with P=1 -/
theorem test_V104_jpo_not :
    let s : State := { start 0x0100 [0xE2, 0x00, 0x40] [] with f := 0x2E }
    after s = some { s with f := 0x2E, pc := 0x0103, cycles := some 3 } := by
  decide
/-- V105: JPE with P=0 -/
theorem test_V105_jpe_not :
    let s : State := { start 0x0100 [0xEA, 0x00, 0x40] [] with f := 0x2A }
    after s = some { s with f := 0x2A, pc := 0x0103, cycles := some 3 } := by
  decide
/-- V106: JPE with P=1 -/
theorem test_V106_jpe_taken :
    let s : State := { start 0x0100 [0xEA, 0x00, 0x40] [] with f := 0x2E }
    after s = some { s with f := 0x2E, pc := 0x4000, cycles := some 3 } := by
  decide
/-- V107: JP with S=0 -/
theorem test_V107_jp_taken :
    let s : State := { start 0x0100 [0xF2, 0x00, 0x40] [] with f := 0x2A }
    after s = some { s with f := 0x2A, pc := 0x4000, cycles := some 3 } := by
  decide
/-- V108: JP with S=1 -/
theorem test_V108_jp_not :
    let s : State := { start 0x0100 [0xF2, 0x00, 0x40] [] with f := 0xAA }
    after s = some { s with f := 0xAA, pc := 0x0103, cycles := some 3 } := by
  decide
/-- V109: JM with S=0 -/
theorem test_V109_jm_not :
    let s : State := { start 0x0100 [0xFA, 0x00, 0x40] [] with f := 0x2A }
    after s = some { s with f := 0x2A, pc := 0x0103, cycles := some 3 } := by
  decide
/-- V110: JM with S=1 -/
theorem test_V110_jm_taken :
    let s : State := { start 0x0100 [0xFA, 0x00, 0x40] [] with f := 0xAA }
    after s = some { s with f := 0xAA, pc := 0x4000, cycles := some 3 } := by
  decide
/-- V113: CALL with SP=0x0001: high byte at 0x0000, low at 0xFFFF -/
theorem test_V113_call_wraps :
    let s : State := { start 0x0200 [0xCD, 0x00, 0x50] [] with sp := 0x0001 }
    after s = some { s with
      f := 0x2A, sp := 0xFFFF, pc := 0x5000, cycles := some 5,
      mem := [(0x0000, 0x02), (0x0200, 0xCD), (0x0202, 0x50), (0xFFFF, 0x03)] } := by
  decide
/-- V115: CALL at 0xFFFD: return address 0x0000 -/
theorem test_V115_call_at_top :
    let s : State := { start 0xFFFD [0xCD, 0x00, 0x50] [(0x7FFF, 0xAA), (0x7FFE, 0xBB)] with sp := 0x8000 }
    after s = some { s with
      f := 0x2A, sp := 0x7FFE, pc := 0x5000, cycles := some 5, mem := [(0xFFFD, 0xCD), (0xFFFF, 0x50)] } := by
  decide
/-- V116: RET with SP=0xFFFF: high byte from 0x0000 -/
theorem test_V116_ret_wraps :
    let s : State := { start 0x0100 [0xC9] [(0xFFFF, 0x34), (0x0000, 0x12)] with sp := 0xFFFF }
    after s = some { s with f := 0x2A, sp := 0x0001, pc := 0x1234, cycles := some 3 } := by
  decide
/-- V117: RET with SP=0xFFFE: SP wraps to 0x0000 -/
theorem test_V117_ret :
    let s : State := { start 0x0200 [0xC9] [(0xFFFE, 0x00), (0xFFFF, 0x01)] with sp := 0xFFFE }
    after s = some { s with f := 0x2A, sp := 0x0000, pc := 0x0100, cycles := some 3 } := by
  decide
/-- V118: NOP on an Intel 8080; here it traps and the bytes 12 34 are not read -/
theorem test_V118_trap_00 :
    let s : State := { start 0x1000 [0x00, 0x12, 0x34] [] with sp := 0x2000, a := 0x55 }
    after s = some { s with f := 0x2A, pc := 0x1001, trap := .trapped 0x1000 0x00, cycles := none } := by
  decide
/-- V120: HLT on an Intel 8080; here it traps and the bytes 12 34 are not read -/
theorem test_V120_trap_76 :
    let s : State := { start 0x1000 [0x76, 0x12, 0x34] [] with sp := 0x2000, a := 0x55 }
    after s = some { s with f := 0x2A, pc := 0x1001, trap := .trapped 0x1000 0x76, cycles := none } := by
  decide

/-! ### A step on a trapped machine, load, inspection, and the host's word -/

/-- A machine that has trapped at 0x1000 on 0x76. -/
def trappedAt : State := { start 0x1000 [0x76] [] with pc := 0x1001, trap := .trapped 0x1000 0x76 }

/-- R45, R220, R224. -/
theorem test_trapped_stops : after trappedAt = none := by decide

/-- W6: load of MVI B, 0x2A and a step. -/
theorem test_W6_load_and_step : after (State.reset.load [0x06, 0x2A]) =
    some { State.reset.load [0x06, 0x2A] with b := 0x2A, pc := 0x0002, cycles := some 2 } := by
  decide

/-- W7: LDA 0x2000 with the cell preset through inspection. -/
theorem test_W7_load_preset_and_step :
    let s : State := (State.reset.load [0x3A, 0x00, 0x20]).preset 0x99 (.cell 0x2000)
    after s = some { s with a := 0x99, pc := 0x0003, cycles := some 4 } := by
  decide

/-- R235: the byte at index 65536 lands on cell 0 under `wrap`; R234 past that is `loadFrom`'s. -/
theorem test_load_wraps : (State.reset.loadFrom 0xFFFF [0x11, 0x22]).mem = [(0x0000, 0x22), (0xFFFF, 0x11)] := by
  decide

/-- R40: writing 0x00 leaves no entry, and entries stay in order. -/
theorem test_memory_canonical :
    ((start 0 [] [(0x2000, 0x11), (0x1000, 0x22), (0x2000, 0x00), (0x0FFF, 0x33)]).mem =
      [(0x0FFF, 0x33), (0x1000, 0x22)]) := by
  decide

/-- From reset with nothing placed, the first step fetches 0x00 and traps (log 12). -/
theorem test_first_step_from_reset : after State.reset =
    some { State.reset with pc := 0x0001, trap := .trapped 0x0000 0x00 } := by
  decide

/-- The host's word runs as the first instruction: CALL as a word of 8 bits, and LXI B with its operand. -/
theorem test_withFetchWord : (after (State.reset.withFetchWord 8 0xCD)).map (fun t => (t.pc, t.sp, t.mem)) =
      some (0x0000, 0xFFFE, [(0x0000, 0xCD), (0xFFFE, 0x03)]) ∧
    (after (State.reset.withFetchWord 24 0x123401)).map (fun t => (t.b, t.c, t.pc)) = some (0x12, 0x34, 0x0003) := by
  decide

/-- R58: the accesses of INR M and of CALL, in order. -/
theorem test_accesses :
    accesses .inrM { State.reset with h := 0x20 } = [.fetch 0x0000, .read 0x2000, .write 0x2000] ∧
    accesses (.call 0x1234) { State.reset with pc := 0xFFFE } =
      [.fetch 0xFFFE, .immediate 0xFFFF, .immediate 0x0000, .write 0xFFFF, .write 0xFFFE] := by
  decide

/-! ### Witnesses: for each statement with hypotheses or clauses, a case that meets them together -/

/-- The configuration with one parameter changed. -/
def nibbleBuild : Config := { defaultConfig with subAc := .nibble }
def bit3Build : Config := { defaultConfig with anaAc := .bit3Or }
def bit2AndBuild : Config := { defaultConfig with anaAc := .bit2And }
def sourceBuild : Config := { defaultConfig with daa := .sourceLiteral }
def advancedBuild : Config := { defaultConfig with trapPc := .advanced }
def truncateBuild : Config := { defaultConfig with loadOverflow := .truncate, cycleCounts := [(0x00, 4), (0x80, 7)] }

/-- ADD B at the end of memory, about to run. -/
def addAtTop : State := { start 0xFFFF [0x80] [] with a := 0xFF, b := 0x01 }

/-- CALL with SP at 1: the stack wraps. -/
def callWraps : State := { start 0x0200 [0xCD, 0x00, 0x50] [] with sp := 0x0001 }

theorem witness_DecodeOfEncode : WellFormed defaultConfig (.lxiSP 0xFFFF) = true ∧
    WellFormed withoutAddB (.unimplemented 0x80) = true := by decide
theorem witness_EncodeOfDecode :
    decode defaultConfig [0xCD, 0xFF, 0xFF, 0x80] = .ok (.call 0xFFFF, [0x80]) := rfl
theorem witness_OpcodeDecidesLength_unimplemented : defaultConfig.implements 0xFF = false := by decide
theorem witness_OpcodeDecidesLength_implemented : defaultConfig.implements 0xFE = true ∧
    defaultConfig.implements 0xCD = true := by decide
/-- One immediate byte is enough for CPI and too few for CALL. -/
theorem witness_OpcodeDecidesLength_boundary : decode defaultConfig [0xFE, 0x01] = .ok (.cpi 0x01, []) ∧
    decode defaultConfig [0xCD, 0x01] = .error (.truncated 0xCD) := ⟨rfl, rfl⟩
theorem witness_StepRunsDecodedInstruction : addAtTop.Running ∧
    decode addAtTop.config (addAtTop.bytesAt addAtTop.pc 1) = .ok (.addB, []) := ⟨rfl, rfl⟩
theorem witness_ByteWriteThenRead : (0x0000 : Word) ≠ 0xFFFF := by decide
theorem witness_WordStoreRoundTrip : (0x0001 : Word) ≠ 0xFFFF ∧ (0x0001 : Word) ≠ 0xFFFF + 1 := by decide
theorem witness_CanonicalMemoryIsUnique : ∃ m m' : Memory, m ≠ [] ∧ m.wf ∧ m'.wf ∧
    ∀ a, a < 65536 → m.read a = m'.read a :=
  ⟨[(0, 1), (65535, 2)], [(0, 1), (65535, 2)], by decide, by decide, by decide, fun _ _ => rfl⟩
theorem witness_LxiLoadsPair : Pair.bc ≠ .sp := by decide
theorem witness_InxAndDcxStepPair : Pair.hl ≠ .sp := by decide
theorem witness_Daa : { start 0 [0x27] [] with a := 0x9B }.config.daa = .reference ∧
    { start 0 [0x27] [] with a := 0x9B, config := sourceBuild }.config.daa = .sourceLiteral := ⟨rfl, rfl⟩
/-- R149 under `source_literal`: A takes the correction byte (P3: 0x7D gives 0x06). -/
theorem test_daa_source_literal :
    (after { start 0 [0x27] [] with a := 0x7D, config := sourceBuild }).map (fun t => (t.a, t.free)) =
      some (0x06, 1) := by decide
theorem witness_Sbb : State.reset.config.subAc = .literal ∧
    { State.reset with config := nibbleBuild }.config.subAc = .nibble := ⟨rfl, rfl⟩
theorem witness_Ana : State.reset.config.anaAc = .bit2Or ∧
    { State.reset with config := bit3Build }.config.anaAc = .bit3Or ∧
    { State.reset with config := bit2AndBuild }.config.anaAc = .bit2And := ⟨rfl, rfl, rfl⟩
theorem witness_UnimplementedOpcodeTraps : (start 0xFFFF [0x76] []).Running ∧
    (start 0xFFFF [0x76] []).config.implements ((start 0xFFFF [0x76] []).readByte 0xFFFF) = false := by decide
theorem witness_TrappedMachineTakesNoStep : trappedAt.trap = .trapped 0x1000 0x76 := rfl
theorem witness_TrapReportFollowsParameter :
    trappedAt.config.trapPc = .opcodeAddress ∧ trappedAt.trapReport = some (0x1000, 0x76) ∧
    { trappedAt with config := advancedBuild }.trapReport = some (0x1001, 0x76) ∧
    State.reset.Running ∧ State.reset.trapReport = none := by decide
theorem witness_OnlyUnimplementedOpcodesTrap : addAtTop.Running ∧
    addAtTop.config.implements (addAtTop.readByte addAtTop.pc) = true ∧
    State.reset.Running ∧ State.reset.config.implements (State.reset.readByte State.reset.pc) = false := by decide
/-- Every clause: an opcode with its own entry, one without, the two fixed ones (their entries overruled), a trap. -/
theorem witness_StepReturnsCycleCount : truncateBuild.Wf ∧
    (after { addAtTop with config := truncateBuild }).map (fun t => (t.cycles, decide t.Running)) =
      some (some 7, true) ∧
    (after addAtTop).map (fun t => t.cycles) = some (some 1) ∧
    (after { start 0 [0x06] [] with config := { defaultConfig with cycleCounts := [(0x06, 9)] } }).map
      (fun t => t.cycles) = some (some 2) ∧
    (after { start 0 [0x3A] [] with config := { defaultConfig with cycleCounts := [(0x3A, 9)] } }).map
      (fun t => t.cycles) = some (some 4) ∧
    (after State.reset).map (fun t => (t.cycles, decide t.Running)) = some (none, false) := by
  decide +kernel
theorem witness_StepWritesOnlyListedCells : ∃ t, step callWraps = .next t ∧
    writeAddrs (accesses callWraps.fetch callWraps) = [0x0000, 0xFFFF] ∧
    (0x0001 : Word) ∉ writeAddrs (accesses callWraps.fetch callWraps) :=
  ⟨_, rfl, by decide, by decide⟩
/-- Two states that differ in a cell that the step does not read. -/
theorem witness_StepDependsOnlyOnListedCells :
    SameButMemory callWraps (callWraps.writeByte 0x7000 0x55) ∧ callWraps.Running ∧
    (∀ addr ∈ readAddrs (accesses callWraps.fetch callWraps),
      (callWraps.writeByte 0x7000 0x55).readByte addr = callWraps.readByte addr) ∧
    (callWraps.writeByte 0x7000 0x55).readByte 0x7000 ≠ callWraps.readByte 0x7000 :=
  ⟨rfl, by decide, fun addr h => by
    rw [show readAddrs (accesses callWraps.fetch callWraps) = [0x0200, 0x0201, 0x0202] by decide] at h
    simp only [List.mem_cons, List.not_mem_nil, or_false] at h
    rcases h with rfl | rfl | rfl <;> rfl, by decide⟩
theorem witness_StepKeepsInvariant : addAtTop.Inv ∧ ∃ t, step addAtTop = .next t :=
  ⟨⟨by decide, by decide, fun _ h => (by cases h), fun _ _ h => (by cases h)⟩, _, rfl⟩
/-- The trap clause of the invariant is met by a trapped state. -/
theorem witness_Inv_trapped : { trappedAt with pc := 0x1001 }.Inv :=
  ⟨by decide, by decide, fun _ h => (by cases h), fun pc0 op h => (by cases h; decide)⟩
theorem witness_CreationState : defaultConfig.Wf ∧ truncateBuild.Wf := by decide
theorem witness_FlagsChangeOnlyInFlagWriters : ∃ t, exec .addB addAtTop = .next t ∧ t.f ≠ addAtTop.f :=
  ⟨_, rfl, by decide⟩
theorem witness_StackPointerWriters : ∃ t, exec (.call 0x5000) callWraps = .next t ∧ t.sp ≠ callWraps.sp :=
  ⟨_, rfl, by decide⟩
theorem witness_ProgramCounterAdvancesButForTransfers :
    ∃ t, exec (.jmp 0x5000) callWraps = .next t ∧ t.pc ≠ nextAddr (.jmp 0x5000) callWraps :=
  ⟨_, rfl, by decide⟩
theorem witness_StoreIsSeenByNextFetch :
    { start 0xFFFF [0x77] [] with a := 0x3C }.hl = { start 0xFFFF [0x77] [] with a := 0x3C }.pc + 1 := by decide
theorem witness_LoadCopiesBytesFromAddressZero : (List.replicate 65536 (0x76 : Byte)).length ≤ 65536 ∧
    State.reset.mem.wf := ⟨by rw [List.length_replicate], by decide⟩
/-- The wrap clause at its first wrapped index, and the clause of the cells past the input. -/
theorem witness_LoadOverflowFollowsParameter :
    State.reset.config.loadOverflow = .wrap ∧
    { State.reset with config := truncateBuild }.config.loadOverflow = .truncate ∧
    65536 * 1 + (0x0000 : Word).toNat < (List.replicate 65537 (0x76 : Byte)).length ∧
    (List.replicate 65537 (0x76 : Byte)).length ≤ 65536 * (1 + 1) + (0x0000 : Word).toNat ∧
    ([0x06, 0x2A] : List Byte).length ≤ (0x0002 : Word).toNat :=
  ⟨rfl, rfl, by rw [List.length_replicate]; decide, by rw [List.length_replicate]; decide, by decide⟩
theorem witness_FailedLoadKeepsUnreachableState : State.reset.mem.wf ∧
    ∃ n, (some 0xFFFF : Option Nat) = some n ∧ n ≤ (0xFFFF : Word).toNat := ⟨by decide, _, rfl, by decide⟩
theorem witness_InspectionWriteChangesOnlyItsPlace : Place.overlaps (.reg .a) (.pair .hl) = false ∧
    Place.overlaps (.flag .cy) (.flag .z) = false ∧ Place.overlaps (.cell 0xFFFF) (.cell 0x0000) = false ∧
    Place.overlaps (.pair .hl) (.reg .l) = true ∧ State.reset.mem.wf := by decide
/-- R240: a flag and a pair written through inspection. -/
theorem test_inspection : (State.reset.preset 1 (.flag .cy)).inspect .flagsCell = 0x01 ∧
    (State.reset.preset 0x1234 (.pair .hl)).inspect (.reg .l) = 0x34 ∧
    (State.reset.preset 0x12345 .pc).inspect .pc = 0x2345 := by decide

end Sys2Proof.Tests
end

section
/-! PROOFS of the family 10_state.md, with the lemmas they need. -/

namespace Sys2Proof.Machine

/-! ### The effect of each instruction -/

/-- What each instruction but the trap does between the advance of `pc` and the return of its count. -/
inductive HasEffect : Instr → (State → State) → Prop
  | mov (dst src : Reg) : HasEffect (.mov dst src) (moveReg dst src)
  | movFromM (dst : Reg) : HasEffect (.movFromM dst) (loadFromM dst)
  | movToM (src : Reg) : HasEffect (.movToM src) (storeToM src)
  | mvi (x : Operand) (data : Byte) : HasEffect (.mvi x data) (loadImmediate x data)
  | lxi (p : Pair) (data : Word) : HasEffect (.lxi p data) (loadPair p data)
  | lda (addr : Word) : HasEffect (.lda addr) (loadDirect addr)
  | sta (addr : Word) : HasEffect (.sta addr) (storeDirect addr)
  | ldax (p : IndirectPair) : HasEffect (.ldax p) (loadIndirect p)
  | stax (p : IndirectPair) : HasEffect (.stax p) (storeIndirect p)
  | lhld (addr : Word) : HasEffect (.lhld addr) (loadHL addr)
  | shld (addr : Word) : HasEffect (.shld addr) (storeHL addr)
  | xchg : HasEffect .xchg exchange
  | alu (op : AluOp) (x : Source) : HasEffect (.alu op x) (aluEffect op x)
  | inr (x : Operand) : HasEffect (.inr x) (increment x)
  | dcr (x : Operand) : HasEffect (.dcr x) (decrement x)
  | inx (p : Pair) : HasEffect (.inx p) (incrementPair p)
  | dcx (p : Pair) : HasEffect (.dcx p) (decrementPair p)
  | dad (p : Pair) : HasEffect (.dad p) (addPair p)
  | daa : HasEffect .daa decimalAdjust
  | rlc : HasEffect .rlc rotateLeft
  | rrc : HasEffect .rrc rotateRight
  | ral : HasEffect .ral rotateLeftThroughCarry
  | rar : HasEffect .rar rotateRightThroughCarry
  | cma : HasEffect .cma complementA
  | cmc : HasEffect .cmc complementCarry
  | stc : HasEffect .stc setCarry
  | jmp (addr : Word) : HasEffect (.jmp addr) (jump addr)
  | jcond (cond : Cond) (addr : Word) : HasEffect (.jcond cond addr) (jumpIf cond addr)
  | call (addr : Word) : HasEffect (.call addr) (callSubroutine addr)
  | ret : HasEffect .ret returnFromSubroutine

/-- `HasEffect` leaves out the trap alone. -/
theorem unimplemented_or_hasEffect (i : Instr) :
    (∃ op, i = .unimplemented op) ∨ ∃ effect, HasEffect i effect := by
  cases i using instr_shapes with
  | unimplemented op => exact .inl ⟨op, rfl⟩
  | mov dst src => exact .inr ⟨_, .mov dst src⟩
  | movFromM dst => exact .inr ⟨_, .movFromM dst⟩
  | movToM src => exact .inr ⟨_, .movToM src⟩
  | mvi x data => exact .inr ⟨_, .mvi x data⟩
  | lxi p data => exact .inr ⟨_, .lxi p data⟩
  | lda addr => exact .inr ⟨_, .lda addr⟩
  | sta addr => exact .inr ⟨_, .sta addr⟩
  | ldax p => exact .inr ⟨_, .ldax p⟩
  | stax p => exact .inr ⟨_, .stax p⟩
  | lhld addr => exact .inr ⟨_, .lhld addr⟩
  | shld addr => exact .inr ⟨_, .shld addr⟩
  | xchg => exact .inr ⟨_, .xchg⟩
  | alu op x => exact .inr ⟨_, .alu op x⟩
  | inr x => exact .inr ⟨_, .inr x⟩
  | dcr x => exact .inr ⟨_, .dcr x⟩
  | inx p => exact .inr ⟨_, .inx p⟩
  | dcx p => exact .inr ⟨_, .dcx p⟩
  | dad p => exact .inr ⟨_, .dad p⟩
  | daa => exact .inr ⟨_, .daa⟩
  | rlc => exact .inr ⟨_, .rlc⟩
  | rrc => exact .inr ⟨_, .rrc⟩
  | ral => exact .inr ⟨_, .ral⟩
  | rar => exact .inr ⟨_, .rar⟩
  | cma => exact .inr ⟨_, .cma⟩
  | cmc => exact .inr ⟨_, .cmc⟩
  | stc => exact .inr ⟨_, .stc⟩
  | jmp addr => exact .inr ⟨_, .jmp addr⟩
  | jcond cond addr => exact .inr ⟨_, .jcond cond addr⟩
  | call addr => exact .inr ⟨_, .call addr⟩
  | ret => exact .inr ⟨_, .ret⟩

/-- `HasEffect` is what `exec` runs. -/
theorem HasEffect.exec_eq {i : Instr} {effect : State → State} (h : HasEffect i effect) (s : State) :
    exec i s = .next (afterExec i effect s) := by
  cases h with
  | mov dst src => exact exec_mov dst src s
  | movFromM dst => exact exec_movFromM dst s
  | movToM src => exact exec_movToM src s
  | mvi x data => exact exec_mvi x data s
  | lxi p data => exact exec_lxi p data s
  | ldax p => exact exec_ldax p s
  | stax p => exact exec_stax p s
  | alu op x => exact exec_alu op x s
  | inr x => exact exec_inr x s
  | dcr x => exact exec_dcr x s
  | inx p => exact exec_inx p s
  | dcx p => exact exec_dcx p s
  | dad p => exact exec_dad p s
  | jcond cond addr => exact exec_jcond cond addr s
  | lda | sta | lhld | shld | xchg | daa | rlc | rrc | ral | rar | cma | cmc | stc | jmp | call | ret => rfl

/-- One inversion for `exec`: its next state is the trap's, or comes from the instruction's effect. -/
theorem exec_inversion {i : Instr} {s t : State} (h : exec i s = .next t) :
    (∃ op, i = .unimplemented op ∧ t = s.takeTrap op) ∨
      ∃ effect, HasEffect i effect ∧ t = afterExec i effect s := by
  rcases unimplemented_or_hasEffect i with ⟨op, rfl⟩ | ⟨effect, he⟩
  · rw [exec_unimplemented] at h
    cases h
    exact .inl ⟨op, rfl, rfl⟩
  · rw [he.exec_eq] at h
    cases h
    exact .inr ⟨effect, he, rfl⟩

theorem afterExec_f (i : Instr) (effect : State → State) (s : State) :
    (afterExec i effect s).f = (effect (s.advancePc i.length)).f := rfl
theorem afterExec_sp (i : Instr) (effect : State → State) (s : State) :
    (afterExec i effect s).sp = (effect (s.advancePc i.length)).sp := rfl
theorem afterExec_pc (i : Instr) (effect : State → State) (s : State) :
    (afterExec i effect s).pc = (effect (s.advancePc i.length)).pc := rfl
theorem advancePc_length_pc (i : Instr) (s : State) : (s.advancePc i.length).pc = nextAddr i s := rfl

/-! ### What the effects leave of the flags cell, SP and `pc` -/

@[simp] theorem exchange_f (s : State) : (exchange s).f = s.f := by simp [exchange]
@[simp] theorem exchange_pc (s : State) : (exchange s).pc = s.pc := by simp [exchange]
@[simp] theorem exchange_sp (s : State) : (exchange s).sp = s.sp := by simp [exchange, State.sp_writePair]

@[simp] theorem accumulate_sp (op : AluOp) (b : Byte) (s : State) : (accumulate op b s).sp = s.sp := by
  cases op <;> rfl
@[simp] theorem accumulate_pc (op : AluOp) (b : Byte) (s : State) : (accumulate op b s).pc = s.pc := by
  cases op <;> rfl

@[simp] theorem increment_sp (x : Operand) (s : State) : (increment x s).sp = s.sp := by simp [increment]
@[simp] theorem increment_pc (x : Operand) (s : State) : (increment x s).pc = s.pc := by simp [increment]

@[simp] theorem decrement_sp (x : Operand) (s : State) : (decrement x s).sp = s.sp := by simp [decrement]
@[simp] theorem decrement_pc (x : Operand) (s : State) : (decrement x s).pc = s.pc := by simp [decrement]

/-- R25: a pair write leaves the stack pointer, or the pair is SP. -/
theorem writePair_sp_or_eq_sp (p : Pair) : (∀ s v, (State.writePair s p v).sp = s.sp) ∨ p = .sp := by
  by_cases h : p = .sp
  · exact .inr h
  · exact .inl fun s v => by rw [State.sp_writePair, if_neg h]

@[simp] theorem addPair_sp (p : Pair) (s : State) : (addPair p s).sp = s.sp := by
  simp [addPair, State.sp_writePair]
@[simp] theorem addPair_pc (p : Pair) (s : State) : (addPair p s).pc = s.pc := by simp [addPair]

@[simp] theorem decimalAdjust_sp (s : State) : (decimalAdjust s).sp = s.sp := by
  unfold decimalAdjust
  split <;> rfl
@[simp] theorem decimalAdjust_pc (s : State) : (decimalAdjust s).pc = s.pc := by
  unfold decimalAdjust
  split <;> rfl

@[simp] theorem jumpIf_f (cond : Cond) (addr : Word) (s : State) : (jumpIf cond addr s).f = s.f := by
  unfold jumpIf
  split <;> rfl
@[simp] theorem jumpIf_sp (cond : Cond) (addr : Word) (s : State) : (jumpIf cond addr s).sp = s.sp := by
  unfold jumpIf
  split <;> rfl

@[simp] theorem callSubroutine_f (addr : Word) (s : State) : (callSubroutine addr s).f = s.f := by
  rw [callSubroutine, State.setPc_f, State.pushByte_f, State.pushByte_f]

/-! ### Who writes the flags cell, SP and `pc` (R39, R28, R26) -/

/-- R39: the instructions that the table names as flag writers. -/
def IsFlagWriter (i : Instr) : Prop :=
  (∃ op x, i = .alu op x) ∨ (∃ x, i = .inr x) ∨ (∃ x, i = .dcr x) ∨ (∃ p, i = .dad p) ∨
    i ∈ [.daa, .rlc, .rrc, .ral, .rar, .cmc, .stc]

/-- R28: the instructions that write SP. -/
def IsStackPointerWriter (i : Instr) : Prop :=
  (∃ data, i = .lxiSP data) ∨ i = .inxSP ∨ i = .dcxSP ∨ (∃ addr, i = .call addr) ∨ i = .ret

/-- R26, R199: the transfers of control. -/
def IsTransfer (i : Instr) : Prop :=
  (∃ addr, i = .jmp addr) ∨ (∃ cond addr, i = .jcond cond addr) ∨ (∃ addr, i = .call addr) ∨ i = .ret

theorem HasEffect.f_eq_or_isFlagWriter {i : Instr} {effect : State → State} (h : HasEffect i effect) :
    (∀ s, (effect s).f = s.f) ∨ IsFlagWriter i := by
  cases h with
  | mov | movFromM | lda | ldax | cma => exact .inl fun s => State.writeReg_f s _ _
  | movToM | sta | stax => exact .inl fun s => State.writeByte_f s _ _
  | mvi => exact .inl fun s => State.writeOperand_f s _ _
  | lxi | lhld | inx | dcx => exact .inl fun s => State.writePair_f s _ _
  | shld => exact .inl fun s => State.write16_f s _ _
  | xchg => exact .inl exchange_f
  | jcond => exact .inl (jumpIf_f _ _)
  | call => exact .inl (callSubroutine_f _)
  | jmp | ret => exact .inl fun _ => rfl
  | alu op x => exact .inr (.inl ⟨op, x, rfl⟩)
  | inr x => exact .inr (.inr (.inl ⟨x, rfl⟩))
  | dcr x => exact .inr (.inr (.inr (.inl ⟨x, rfl⟩)))
  | dad p => exact .inr (.inr (.inr (.inr (.inl ⟨p, rfl⟩))))
  | daa | rlc | rrc | ral | rar | cmc | stc => exact .inr (.inr (.inr (.inr (.inr (by decide)))))

theorem HasEffect.sp_eq_or_isStackPointerWriter {i : Instr} {effect : State → State} (h : HasEffect i effect) :
    (∀ s, (effect s).sp = s.sp) ∨ IsStackPointerWriter i := by
  cases h with
  | mov | movFromM | lda | ldax | cma => exact .inl fun s => State.writeReg_sp s _ _
  | movToM | sta | stax => exact .inl fun s => State.writeByte_sp s _ _
  | mvi => exact .inl fun s => State.writeOperand_sp s _ _
  | shld => exact .inl fun s => State.write16_sp s _ _
  | xchg => exact .inl exchange_sp
  | lhld => exact .inl fun s => State.sp_writePair s .hl _
  | alu => exact .inl fun s => accumulate_sp _ _ s
  | inr => exact .inl (increment_sp _)
  | dcr => exact .inl (decrement_sp _)
  | dad => exact .inl (addPair_sp _)
  | daa => exact .inl decimalAdjust_sp
  | rlc | rrc | ral | rar | cmc | stc | jmp => exact .inl fun _ => rfl
  | jcond => exact .inl (jumpIf_sp _ _)
  | lxi p data => exact (writePair_sp_or_eq_sp p).imp (fun h s => h s _) (by rintro rfl; exact .inl ⟨data, rfl⟩)
  | inx p => exact (writePair_sp_or_eq_sp p).imp (fun h s => h s _) (by rintro rfl; exact .inr (.inl rfl))
  | dcx p => exact (writePair_sp_or_eq_sp p).imp (fun h s => h s _) (by rintro rfl; exact .inr (.inr (.inl rfl)))
  | call addr => exact .inr (.inr (.inr (.inr (.inl ⟨addr, rfl⟩))))
  | ret => exact .inr (.inr (.inr (.inr (.inr rfl))))

theorem HasEffect.pc_eq_or_isTransfer {i : Instr} {effect : State → State} (h : HasEffect i effect) :
    (∀ s, (effect s).pc = s.pc) ∨ IsTransfer i := by
  cases h with
  | mov | movFromM | lda | ldax | cma => exact .inl fun s => State.writeReg_pc s _ _
  | movToM | sta | stax => exact .inl fun s => State.writeByte_pc s _ _
  | mvi => exact .inl fun s => State.writeOperand_pc s _ _
  | lxi | lhld | inx | dcx => exact .inl fun s => State.writePair_pc s _ _
  | shld => exact .inl fun s => State.write16_pc s _ _
  | xchg => exact .inl exchange_pc
  | alu => exact .inl fun s => accumulate_pc _ _ s
  | inr => exact .inl (increment_pc _)
  | dcr => exact .inl (decrement_pc _)
  | dad => exact .inl (addPair_pc _)
  | daa => exact .inl decimalAdjust_pc
  | rlc | rrc | ral | rar | cmc | stc => exact .inl fun _ => rfl
  | jmp addr => exact .inr (.inl ⟨addr, rfl⟩)
  | jcond cond addr => exact .inr (.inr (.inl ⟨cond, addr, rfl⟩))
  | call addr => exact .inr (.inr (.inr (.inl ⟨addr, rfl⟩)))
  | ret => exact .inr (.inr (.inr (.inr rfl)))

/-! ### Cycle counts (R245) -/

theorem mem_of_findCount {op : Byte} {l : List (Byte × Nat)} {n : Nat} (h : findCount op l = some n) :
    (op, n) ∈ l := by
  induction l with
  | nil => cases h
  | cons e rest ih =>
    obtain ⟨k, m⟩ := e
    rw [findCount] at h
    split at h
    · next hk =>
      cases h
      rw [hk]
      exact List.mem_cons_self
    · exact List.mem_cons_of_mem _ (ih h)

/-- R246: the counts of the default table are 1 to 5. -/
theorem defaultCycles_bounds (op : Byte) : 0 < defaultCycles op ∧ defaultCycles op ≤ 5 := by
  unfold defaultCycles
  repeat' split
  all_goals decide

/-- Under legal parameters every count is a small positive integer. -/
theorem cyclesOf_bounds {c : Config} (h : c.Wf) (op : Byte) : 0 < c.cyclesOf op ∧ c.cyclesOf op < 2 ^ 32 := by
  unfold Config.cyclesOf
  split
  · decide
  · split
    · decide
    · cases hf : findCount op c.cycleCounts with
      | none =>
        obtain ⟨hpos, hle⟩ := defaultCycles_bounds op
        exact ⟨hpos, Nat.lt_of_le_of_lt hle (by decide)⟩
      | some n => exact h _ (mem_of_findCount hf)

/-! ### What is fetched -/

/-- R87: an opcode outside `IMPLEMENTED` is fetched as the trap. -/
theorem State.fetch_of_not_implements {s : State} (h : s.config.implements (s.readByte s.pc) = false) :
    s.fetch = .unimplemented (s.readByte s.pc) := by
  rw [State.fetch, decodeInstr, h]
  rfl

/-- R86: an opcode in `IMPLEMENTED` is not. -/
theorem State.fetch_ne_unimplemented {s : State} (h : s.config.implements (s.readByte s.pc) = true) (op : Byte) :
    s.fetch ≠ .unimplemented op := by
  rw [State.fetch, decodeInstr_implemented h]
  exact decodeOpcode_ne_unimplemented _ _ _ (Config.implements_default h) op

/-- One inversion for a step by its opcode: the trap of an opcode outside `IMPLEMENTED`, or an instruction that keeps
what `Keeps` says and returns its count. -/
theorem step_inversion {s t : State} (h : step s = .next t) :
    (s.config.implements (s.readByte s.pc) = false ∧ t = s.takeTrap (s.readByte s.pc)) ∨
      (Keeps s t ∧ t.cycles = some (s.config.cyclesOf s.fetch.opcode)) := by
  obtain ⟨-, hexec⟩ := step_next h
  cases himp : s.config.implements (s.readByte s.pc) with
  | false =>
    rw [State.fetch_of_not_implements himp, exec_unimplemented] at hexec
    cases hexec
    exact .inl ⟨rfl, rfl⟩
  | true =>
    obtain ⟨u, hu, hkeeps, hcycles⟩ := exec_keeps s.fetch s (State.fetch_ne_unimplemented himp)
    rw [hu] at hexec
    cases hexec
    exact .inr ⟨hkeeps, hcycles⟩

/-! ### The invariant -/

theorem State.Inv.takeTrap {s : State} (h : s.Inv) (himp : s.config.implements (s.readByte s.pc) = false) :
    (s.takeTrap (s.readByte s.pc)).Inv where
  mem := h.mem
  config := h.config
  cycles _ hn := by cases hn
  trap pc0 op htrap := by
    cases htrap
    exact ⟨rfl, rfl, rfl, himp⟩

/-- A completed instruction returns a count of its build, and the machine still runs. -/
theorem State.Inv.of_keeps {s t : State} (h : s.Inv) (hrun : s.Running) (hkeeps : Keeps s t) {op : Byte}
    (hcycles : t.cycles = some (s.config.cyclesOf op)) : t.Inv where
  mem := hkeeps.wf h.mem
  config := hkeeps.config ▸ h.config
  cycles n hn := by
    rw [hcycles] at hn
    cases hn
    exact cyclesOf_bounds h.config op
  trap pc0 op htrap := by
    rw [hkeeps.trap, hrun] at htrap
    cases htrap

theorem step_keeps_inv {s t : State} (h : s.Inv) (hstep : step s = .next t) : t.Inv := by
  obtain ⟨hrun, -⟩ := step_next hstep
  rcases step_inversion hstep with ⟨himp, rfl⟩ | ⟨hkeeps, hcycles⟩
  · exact h.takeTrap himp
  · exact h.of_keeps hrun hkeeps hcycles

theorem inv_create (r : ResetRegs) {c : Config} (h : c.Wf) : (State.create r c).Inv where
  mem := State.mem_wf_create r c
  config := h
  cycles _ hn := by cases hn
  trap _ _ htrap := by cases htrap

/-! ### Runs -/

/-- What every step keeps, every run keeps. -/
theorem runSteps_keeps {P : State → Prop} (hstep : ∀ s t, P s → step s = .next t → P t) (n : Nat) {s : State}
    (h : P s) : P (runSteps n s) := by
  induction n generalizing s with
  | zero => exact h
  | succ n ih =>
    rw [runSteps]
    split
    · next t ht => exact ih (hstep s t h ht)
    · exact h
    · exact h

theorem runSteps_trapped {s : State} {pc0 : Word} {op : Byte} (h : s.trap = .trapped pc0 op) (n : Nat) :
    runSteps n s = s := by
  cases n with
  | zero => rfl
  | succ n => rw [runSteps, step_trapped h]

/-- Two states with the same padding bits (R30) and parameters (R8). -/
structure SamePaddingAndConfig (s t : State) : Prop where
  padding : ∀ k, IsPadding k → t.f.getLsbD k = s.f.getLsbD k
  config : t.config = s.config

theorem SamePaddingAndConfig.trans {s t u : State} (h : SamePaddingAndConfig s t) (h' : SamePaddingAndConfig t u) :
    SamePaddingAndConfig s u :=
  ⟨fun k hk => (h'.padding k hk).trans (h.padding k hk), h'.config.trans h.config⟩

theorem step_samePaddingAndConfig {s t : State} (h : step s = .next t) : SamePaddingAndConfig s t := by
  rcases step_inversion h with ⟨-, rfl⟩ | ⟨hkeeps, -⟩
  · exact ⟨fun _ _ => rfl, rfl⟩
  · exact ⟨hkeeps.padding, hkeeps.config⟩

theorem runSteps_samePaddingAndConfig (n : Nat) (s : State) : SamePaddingAndConfig s (runSteps n s) :=
  runSteps_keeps (P := SamePaddingAndConfig s) (fun _ _ h ht => h.trans (step_samePaddingAndConfig ht)) n
    ⟨fun _ _ => rfl, rfl⟩

/-! ### The obligations -/

/-- Settles O49: the step is the trap, whose status tells the truth, or a completed instruction, which keeps memory's
canonical form and the parameters and returns a count of its build. -/
theorem stepKeepsInvariant : Obligations.StepKeepsInvariant := by
  unfold Obligations.StepKeepsInvariant
  exact fun _ _ h hstep => step_keeps_inv h hstep

/-- Settles O51, by induction on the number of steps. -/
theorem paddingBitsAndParametersNeverChange : Obligations.PaddingBitsAndParametersNeverChange := by
  unfold Obligations.PaddingBitsAndParametersNeverChange
  rintro s _ n rfl
  obtain ⟨hpadding, hconfig⟩ := runSteps_samePaddingAndConfig n s
  exact ⟨hpadding 1 (by decide), hpadding 3 (by decide), hpadding 5 (by decide), hconfig⟩

/-- Settles O52: the trap and the effect of any other instruction keep the flags cell. -/
theorem flagsChangeOnlyInFlagWriters : Obligations.FlagsChangeOnlyInFlagWriters := by
  unfold Obligations.FlagsChangeOnlyInFlagWriters
  intro i s t h hne
  rcases exec_inversion h with ⟨op, rfl, rfl⟩ | ⟨effect, he, rfl⟩
  · exact absurd (State.takeTrap_f s op) hne
  · exact he.f_eq_or_isFlagWriter.resolve_left fun hf => hne (by rw [afterExec_f, hf, State.advancePc_f])

/-- Settles O53: the trap and the effect of any other instruction keep SP. -/
theorem stackPointerWriters : Obligations.StackPointerWriters := by
  unfold Obligations.StackPointerWriters
  intro i s t h hne
  rcases exec_inversion h with ⟨op, rfl, rfl⟩ | ⟨effect, he, rfl⟩
  · exact absurd (State.takeTrap_sp s op) hne
  · exact he.sp_eq_or_isStackPointerWriter.resolve_left fun hsp =>
      hne (by rw [afterExec_sp, hsp, State.advancePc_sp])

/-- Settles O54: the effect of any instruction that is no transfer leaves `pc` where the advance put it, and the trap
advances past its one byte. -/
theorem programCounterAdvancesButForTransfers : Obligations.ProgramCounterAdvancesButForTransfers := by
  unfold Obligations.ProgramCounterAdvancesButForTransfers
  intro i s t h hne
  rcases exec_inversion h with ⟨op, rfl, rfl⟩ | ⟨effect, he, rfl⟩
  · exact absurd (State.takeTrap_pc s op) hne
  · exact he.pc_eq_or_isTransfer.resolve_left fun hpc => hne (by rw [afterExec_pc, hpc, advancePc_length_pc])

/-- Settles O10: the two bytes are `hiByte` and `loByte` of the value. -/
theorem pairsAreViews : Obligations.PairsAreViews := by
  unfold Obligations.PairsAreViews
  exact fun s v => ⟨joinBytes_toNat s.b s.c, joinBytes_toNat s.d s.e, joinBytes_toNat s.h s.l,
    hiByte v, loByte v, hiByte_toNat v, loByte_toNat v, rfl, rfl, rfl⟩

/-- Settles O43: the fault ends a run at its first step. -/
theorem trappedMachineTakesNoStep : Obligations.TrappedMachineTakesNoStep := by
  unfold Obligations.TrappedMachineTakesNoStep
  exact fun s pc0 op n h => ⟨step_trapped h, runSteps_trapped h n⟩

/-- Settles O50: creation lists no cell and returns no count, and the defaults are legal parameters. -/
theorem creationState : Obligations.CreationState := by
  unfold Obligations.CreationState
  exact fun r c h => ⟨inv_create r h, rfl, rfl, fun addr => Memory.read_nil addr.toNat, rfl,
    inv_create resetRegs (c := defaultConfig) (by decide)⟩

end Sys2Proof.Machine
end

section
/-! PROOFS of the family 20_memory.md, with the lemmas they need. -/

namespace Sys2Proof.Machine

/-! ### The addresses of the access list (R58) -/

@[simp] theorem readAddrs_append (l l' : List Access) : readAddrs (l ++ l') = readAddrs l ++ readAddrs l' := by
  induction l with
  | nil => rfl
  | cons x l ih => cases x <;> simp [readAddrs, ih]

@[simp] theorem writeAddrs_append (l l' : List Access) :
    writeAddrs (l ++ l') = writeAddrs l ++ writeAddrs l' := by
  induction l with
  | nil => rfl
  | cons x l ih => cases x <;> simp [writeAddrs, ih]

/-- R51: reading an immediate writes nothing. -/
@[simp] theorem writeAddrs_immediateReads (pc0 : Word) (n : Nat) : writeAddrs (immediateReads pc0 n) = [] := by
  unfold immediateReads
  split
  · rfl
  · split <;> rfl

theorem writeAddrs_accesses (i : Instr) (s : State) :
    writeAddrs (accesses i s) = writeAddrs (dataAccesses i s) := by
  simp [accesses, writeAddrs]

theorem readAddrs_accesses (i : Instr) (s : State) :
    readAddrs (accesses i s) = s.pc :: (readAddrs (immediateReads s.pc i.length) ++ readAddrs (dataAccesses i s)) := by
  simp [accesses, readAddrs]

theorem pc_mem_readAddrs (i : Instr) (s : State) : s.pc ∈ readAddrs (accesses i s) := by
  simp [readAddrs_accesses]

theorem pc_add_one_mem_readAddrs {i : Instr} (s : State) (h : i.length = 2 ∨ i.length = 3) :
    s.pc + 1 ∈ readAddrs (accesses i s) := by
  rcases h with h | h <;> simp [readAddrs_accesses, immediateReads, readAddrs, h]

theorem pc_add_two_mem_readAddrs {i : Instr} (s : State) (h : i.length = 3) :
    s.pc + 2 ∈ readAddrs (accesses i s) := by
  simp [readAddrs_accesses, immediateReads, readAddrs, h]

theorem mem_readAddrs_of_dataAccesses {i : Instr} {s : State} {addr : Word}
    (h : addr ∈ readAddrs (dataAccesses i s)) : addr ∈ readAddrs (accesses i s) := by
  simp [readAddrs_accesses, h]

/-- The data accesses do not depend on `pc`. -/
theorem dataAccesses_advancePc (i : Instr) (s : State) (n : Nat) :
    dataAccesses i (s.advancePc n) = dataAccesses i s := by cases i <;> rfl

/-! ### The data accesses by the selectors of the instructions (R58) -/

theorem dataAccesses_mov (dst src : Reg) (s : State) : dataAccesses (.mov dst src) s = [] := by
  cases dst <;> cases src <;> rfl
theorem dataAccesses_mvi_reg (r : Reg) (data : Byte) (s : State) : dataAccesses (.mvi (.reg r) data) s = [] := by
  cases r <;> rfl
theorem dataAccesses_lxi (p : Pair) (data : Word) (s : State) : dataAccesses (.lxi p data) s = [] := by
  cases p <;> rfl
theorem dataAccesses_alu_reg (op : AluOp) (r : Reg) (s : State) : dataAccesses (.alu op (.reg r)) s = [] := by
  cases op <;> cases r <;> rfl
theorem dataAccesses_alu_imm (op : AluOp) (data : Byte) (s : State) : dataAccesses (.alu op (.imm data)) s = [] := by
  cases op <;> rfl
theorem dataAccesses_inr_reg (r : Reg) (s : State) : dataAccesses (.inr (.reg r)) s = [] := by cases r <;> rfl
theorem dataAccesses_dcr_reg (r : Reg) (s : State) : dataAccesses (.dcr (.reg r)) s = [] := by cases r <;> rfl
theorem dataAccesses_inx (p : Pair) (s : State) : dataAccesses (.inx p) s = [] := by cases p <;> rfl
theorem dataAccesses_dcx (p : Pair) (s : State) : dataAccesses (.dcx p) s = [] := by cases p <;> rfl
theorem dataAccesses_dad (p : Pair) (s : State) : dataAccesses (.dad p) s = [] := by cases p <;> rfl
theorem dataAccesses_jcond (cond : Cond) (addr : Word) (s : State) : dataAccesses (.jcond cond addr) s = [] := by
  cases cond <;> rfl
@[simp] theorem dataAccesses_movFromM (dst : Reg) (s : State) : dataAccesses (.movFromM dst) s = [.read s.hl] := by
  cases dst <;> rfl
@[simp] theorem dataAccesses_movToM (src : Reg) (s : State) : dataAccesses (.movToM src) s = [.write s.hl] := by
  cases src <;> rfl
@[simp] theorem dataAccesses_mvi_m (data : Byte) (s : State) : dataAccesses (.mvi .m data) s = [.write s.hl] := rfl
@[simp] theorem dataAccesses_ldax (p : IndirectPair) (s : State) :
    dataAccesses (.ldax p) s = [.read (s.readPair p.toPair)] := by cases p <;> rfl
@[simp] theorem dataAccesses_stax (p : IndirectPair) (s : State) :
    dataAccesses (.stax p) s = [.write (s.readPair p.toPair)] := by cases p <;> rfl
@[simp] theorem dataAccesses_alu_m (op : AluOp) (s : State) : dataAccesses (.alu op .m) s = [.read s.hl] := by
  cases op <;> rfl
@[simp] theorem dataAccesses_inr_m (s : State) : dataAccesses (.inr .m) s = [.read s.hl, .write s.hl] := rfl
@[simp] theorem dataAccesses_dcr_m (s : State) : dataAccesses (.dcr .m) s = [.read s.hl, .write s.hl] := rfl

/-! ### Functions of the state that neither read nor write memory -/

/-- The state with another memory. -/
def State.withMem (s : State) (m : Memory) : State := { s with mem := m }

@[simp] theorem State.withMem_readReg (s : State) (m : Memory) (r : Reg) :
    (s.withMem m).readReg r = s.readReg r := by cases r <;> rfl
@[simp] theorem State.withMem_readPair (s : State) (m : Memory) (p : Pair) :
    (s.withMem m).readPair p = s.readPair p := by cases p <;> rfl
@[simp] theorem State.withMem_hl (s : State) (m : Memory) : (s.withMem m).hl = s.hl := rfl

theorem SameButMemory.exists_withMem {s s' : State} (h : SameButMemory s s') : ∃ m, s' = s.withMem m := by
  rw [SameButMemory] at h
  rw [← h]
  exact ⟨s'.mem, rfl⟩

/-- Another memory makes no difference to such a function, and it hands memory on. -/
def MemoryFree (f : State → State) : Prop := ∀ s m, f (s.withMem m) = (f s).withMem m

theorem MemoryFree.mem_eq {f : State → State} (hf : MemoryFree f) (s : State) : (f s).mem = s.mem := by
  have h : f s = (f s).withMem s.mem := hf s s.mem
  exact (congrArg State.mem h).trans rfl

theorem memoryFree_writeReg (r : Reg) (v : Byte) : MemoryFree (fun s => s.writeReg r v) := by
  intro s m
  cases r <;> rfl
theorem memoryFree_writePair (p : Pair) (v : Word) : MemoryFree (fun s => s.writePair p v) := by
  intro s m
  cases p <;> rfl
theorem memoryFree_setPc (v : Word) : MemoryFree (fun s => s.setPc v) := fun _ _ => rfl
theorem memoryFree_setSp (v : Word) : MemoryFree (fun s => s.setSp v) := fun _ _ => rfl
theorem memoryFree_setF (f : Byte) : MemoryFree (fun s => s.setF f) := fun _ _ => rfl
theorem memoryFree_advancePc (n : Nat) : MemoryFree (fun s => s.advancePc n) := fun _ _ => rfl
theorem memoryFree_returnCycles (n : Nat) : MemoryFree (fun s => s.returnCycles n) := fun _ _ => rfl
theorem memoryFree_takeTrap (op : Byte) : MemoryFree (fun s => s.takeTrap op) := fun _ _ => rfl

theorem memoryFree_moveReg (dst src : Reg) : MemoryFree (moveReg dst src) := by
  intro s m
  rw [moveReg, State.withMem_readReg]
  exact memoryFree_writeReg dst _ s m
theorem memoryFree_accumulate (op : AluOp) (b : Byte) : MemoryFree (accumulate op b) := by
  intro s m
  cases op <;> rfl
theorem memoryFree_aluEffect_reg (op : AluOp) (r : Reg) : MemoryFree (aluEffect op (.reg r)) := by
  intro s m
  rw [aluEffect, State.readSource, State.withMem_readReg]
  exact memoryFree_accumulate op _ s m
theorem memoryFree_increment_reg (r : Reg) : MemoryFree (increment (.reg r)) := by
  intro s m
  cases r <;> rfl
theorem memoryFree_decrement_reg (r : Reg) : MemoryFree (decrement (.reg r)) := by
  intro s m
  cases r <;> rfl
theorem memoryFree_incrementPair (p : Pair) : MemoryFree (incrementPair p) := by
  intro s m
  cases p <;> rfl
theorem memoryFree_decrementPair (p : Pair) : MemoryFree (decrementPair p) := by
  intro s m
  cases p <;> rfl
theorem memoryFree_addPair (p : Pair) : MemoryFree (addPair p) := by
  intro s m
  cases p <;> rfl
theorem memoryFree_decimalAdjust : MemoryFree decimalAdjust := by
  intro s m
  rw [decimalAdjust, decimalAdjust, show (s.withMem m).config = s.config from rfl]
  cases s.config.daa <;> rfl
theorem memoryFree_jumpIf (cond : Cond) (addr : Word) : MemoryFree (jumpIf cond addr) := by
  intro s m
  rw [jumpIf, jumpIf, show (s.withMem m).f = s.f from rfl]
  split <;> rfl

/-! ### The instructions with data accesses -/

/-- The part of `HasEffect` that touches memory (R58). -/
inductive HasMemoryEffect : Instr → (State → State) → Prop
  | movFromM (dst : Reg) : HasMemoryEffect (.movFromM dst) (loadFromM dst)
  | movToM (src : Reg) : HasMemoryEffect (.movToM src) (storeToM src)
  | mviM (data : Byte) : HasMemoryEffect (.mvi .m data) (loadImmediate .m data)
  | lda (addr : Word) : HasMemoryEffect (.lda addr) (loadDirect addr)
  | sta (addr : Word) : HasMemoryEffect (.sta addr) (storeDirect addr)
  | ldax (p : IndirectPair) : HasMemoryEffect (.ldax p) (loadIndirect p)
  | stax (p : IndirectPair) : HasMemoryEffect (.stax p) (storeIndirect p)
  | lhld (addr : Word) : HasMemoryEffect (.lhld addr) (loadHL addr)
  | shld (addr : Word) : HasMemoryEffect (.shld addr) (storeHL addr)
  | aluM (op : AluOp) : HasMemoryEffect (.alu op .m) (aluEffect op .m)
  | inrM : HasMemoryEffect (.inr .m) (increment .m)
  | dcrM : HasMemoryEffect (.dcr .m) (decrement .m)
  | call (addr : Word) : HasMemoryEffect (.call addr) (callSubroutine addr)
  | ret : HasMemoryEffect .ret returnFromSubroutine

/-- Every effect touches no memory, nor does its instruction list a data access, or it is one of those above. -/
theorem HasEffect.memoryFree_or_memoryEffect {i : Instr} {effect : State → State} (h : HasEffect i effect) :
    (MemoryFree effect ∧ ∀ s, dataAccesses i s = []) ∨ HasMemoryEffect i effect := by
  cases h with
  | mov dst src => exact .inl ⟨memoryFree_moveReg dst src, dataAccesses_mov dst src⟩
  | lxi p data => exact .inl ⟨memoryFree_writePair p data, dataAccesses_lxi p data⟩
  | inx p => exact .inl ⟨memoryFree_incrementPair p, dataAccesses_inx p⟩
  | dcx p => exact .inl ⟨memoryFree_decrementPair p, dataAccesses_dcx p⟩
  | dad p => exact .inl ⟨memoryFree_addPair p, dataAccesses_dad p⟩
  | daa => exact .inl ⟨memoryFree_decimalAdjust, fun _ => rfl⟩
  | xchg | rlc | rrc | ral | rar | cma | cmc | stc | jmp => exact .inl ⟨fun _ _ => rfl, fun _ => rfl⟩
  | jcond cond addr => exact .inl ⟨memoryFree_jumpIf cond addr, dataAccesses_jcond cond addr⟩
  | mvi x data =>
    cases x with
    | reg r => exact .inl ⟨memoryFree_writeReg r data, dataAccesses_mvi_reg r data⟩
    | m => exact .inr (.mviM data)
  | alu op x =>
    cases x with
    | reg r => exact .inl ⟨memoryFree_aluEffect_reg op r, dataAccesses_alu_reg op r⟩
    | m => exact .inr (.aluM op)
    | imm data => exact .inl ⟨memoryFree_accumulate op data, dataAccesses_alu_imm op data⟩
  | inr x =>
    cases x with
    | reg r => exact .inl ⟨memoryFree_increment_reg r, dataAccesses_inr_reg r⟩
    | m => exact .inr .inrM
  | dcr x =>
    cases x with
    | reg r => exact .inl ⟨memoryFree_decrement_reg r, dataAccesses_dcr_reg r⟩
    | m => exact .inr .dcrM
  | movFromM dst => exact .inr (.movFromM dst)
  | movToM src => exact .inr (.movToM src)
  | lda addr => exact .inr (.lda addr)
  | sta addr => exact .inr (.sta addr)
  | ldax p => exact .inr (.ldax p)
  | stax p => exact .inr (.stax p)
  | lhld addr => exact .inr (.lhld addr)
  | shld addr => exact .inr (.shld addr)
  | call addr => exact .inr (.call addr)
  | ret => exact .inr .ret

/-! ### Which cells an effect changes -/

theorem HasMemoryEffect.readByte_eq {i : Instr} {effect : State → State} (h : HasMemoryEffect i effect) {s : State}
    {addr : Word} (ha : addr ∉ writeAddrs (dataAccesses i s)) : (effect s).readByte addr = s.readByte addr := by
  cases h with
  | movFromM | lda | ldax => exact State.writeReg_readByte ..
  | lhld => exact State.writePair_readByte ..
  | aluM op => cases op <;> rfl
  | ret => rfl
  | movToM | stax | mviM | inrM | dcrM =>
    exact State.readByte_writeByte_of_ne s _ (by simpa [writeAddrs] using ha)
  | sta => exact State.readByte_writeByte_of_ne s _ (by simpa [dataAccesses, writeAddrs] using ha)
  | shld dst =>
    obtain ⟨hlo, hhi⟩ : addr ≠ dst ∧ addr ≠ dst + 1 := by simpa [dataAccesses, writeAddrs] using ha
    rw [storeHL, State.readByte_write16, if_neg hhi, if_neg hlo]
  | call =>
    obtain ⟨hhi, hlo⟩ : addr ≠ s.sp - 1 ∧ addr ≠ s.sp - 2 := by simpa [dataAccesses, writeAddrs] using ha
    rw [State.readByte_callSubroutine, if_neg hlo, if_neg hhi]

/-- R58: an effect changes no cell that its instruction does not list as written. -/
theorem HasEffect.readByte_eq {i : Instr} {effect : State → State} (h : HasEffect i effect) {s : State} {addr : Word}
    (ha : addr ∉ writeAddrs (dataAccesses i s)) : (effect s).readByte addr = s.readByte addr := by
  rcases h.memoryFree_or_memoryEffect with ⟨hfree, -⟩ | hmem
  · rw [State.readByte, hfree.mem_eq, State.readByte]
  · exact hmem.readByte_eq ha

theorem afterExec_readByte (i : Instr) (effect : State → State) (s : State) (addr : Word) :
    (afterExec i effect s).readByte addr = (effect (s.advancePc i.length)).readByte addr := rfl

/-! ### States that agree on a set of cells -/

/-- Two states that differ in memory alone, and hold the same byte in each cell of `A`. -/
structure AgreeOn (A : Set Word) (s s' : State) : Prop where
  same : SameButMemory s s'
  read : ∀ addr ∈ A, s'.readByte addr = s.readByte addr

section
variable {A B : Set Word} {s s' : State}

theorem AgreeOn.mono (h : AgreeOn A s s') (hB : ∀ addr ∈ B, addr ∈ A) : AgreeOn B s s' :=
  ⟨h.same, fun addr ha => h.read addr (hB addr ha)⟩

theorem AgreeOn.memoryFree (h : AgreeOn A s s') {f : State → State} (hf : MemoryFree f) :
    AgreeOn A (f s) (f s') where
  same := by
    obtain ⟨m, rfl⟩ := h.same.exists_withMem
    rw [hf]
    rfl
  read addr ha := by
    rw [State.readByte, State.readByte, hf.mem_eq, hf.mem_eq]
    exact h.read addr ha

/-- A byte read in a cell of `A` is the same in both. -/
theorem AgreeOn.readThen (h : AgreeOn A s s') {addr : Word} (ha : addr ∈ A) {f : Byte → State → State}
    (hf : ∀ v, MemoryFree (f v)) : AgreeOn A (f (s.readByte addr) s) (f (s'.readByte addr) s') := by
  rw [h.read addr ha]
  exact h.memoryFree (hf _)

/-- So is a word read in two cells of `A`. -/
theorem AgreeOn.read16Then (h : AgreeOn A s s') {addr : Word} (ha : addr ∈ A) (ha' : addr + 1 ∈ A)
    {f : Word → State → State} (hf : ∀ v, MemoryFree (f v)) :
    AgreeOn A (f (s.read16 addr) s) (f (s'.read16 addr) s') := by
  have hread : s'.read16 addr = s.read16 addr := by
    rw [State.read16, State.read16, h.read addr ha, h.read (addr + 1) ha']
  rw [hread]
  exact h.memoryFree (hf _)

/-- Where the same byte is written in both, they agree. -/
theorem AgreeOn.writeByte (h : AgreeOn A s s') (addr : Word) (v : Byte) :
    AgreeOn (insert addr A) (s.writeByte addr v) (s'.writeByte addr v) where
  same := by
    obtain ⟨m, rfl⟩ := h.same.exists_withMem
    rfl
  read k hk := by
    rw [State.readByte_writeByte, State.readByte_writeByte]
    split
    · rfl
    · next hne => exact h.read k (hk.resolve_left hne)

theorem AgreeOn.pushByte (h : AgreeOn A s s') (v : Byte) :
    AgreeOn (insert (s.sp - 1) A) (s.pushByte v) (s'.pushByte v) := by
  have hsp : s'.sp = s.sp := by
    obtain ⟨m, rfl⟩ := h.same.exists_withMem
    rfl
  rw [State.pushByte, State.pushByte, hsp]
  exact (h.memoryFree (memoryFree_setSp (s.sp - 1))).writeByte (s.sp - 1) v

/-- A byte of `A` read, a function of it written back, and another to the flags cell: the course of INR M and DCR M. -/
theorem AgreeOn.modifyByte (h : AgreeOn A s s') {addr : Word} (ha : addr ∈ A) (r f : Byte → Byte) :
    AgreeOn (insert addr A) ((s.writeByte addr (r (s.readByte addr))).setF (f (s.readByte addr)))
      ((s'.writeByte addr (r (s'.readByte addr))).setF (f (s'.readByte addr))) := by
  rw [h.read addr ha]
  exact (h.writeByte addr _).memoryFree (memoryFree_setF _)

theorem AgreeOn.increment_m (h : AgreeOn A s s') (ha : s.hl ∈ A) :
    AgreeOn (insert s.hl A) (increment .m s) (increment .m s') := by
  obtain ⟨m, rfl⟩ := h.same.exists_withMem
  exact h.modifyByte ha (fun v => add8 v 1 false) fun v => setFlagsAdd s.f (add8 v 1 false) v 1 false .zspa

theorem AgreeOn.decrement_m (h : AgreeOn A s s') (ha : s.hl ∈ A) :
    AgreeOn (insert s.hl A) (decrement .m s) (decrement .m s') := by
  obtain ⟨m, rfl⟩ := h.same.exists_withMem
  exact h.modifyByte ha (fun v => sub8 v 1 false)
    fun v => setFlagsSub s.config.subAc s.f (sub8 v 1 false) v 1 false .zspa

theorem AgreeOn.callSubroutine (h : AgreeOn A s s') (target : Word) :
    AgreeOn (insert (s.sp - 2) (insert (s.sp - 1) A)) (callSubroutine target s) (callSubroutine target s') := by
  obtain ⟨m, rfl⟩ := h.same.exists_withMem
  have hpush := (h.pushByte (hiByte s.pc)).pushByte (loByte s.pc)
  rw [State.pushByte_sp, sub_two] at hpush
  exact hpush.memoryFree (memoryFree_setPc target)

theorem AgreeOn.returnFromSubroutine (h : AgreeOn A s s') (ha : s.sp ∈ A) (ha' : s.sp + 1 ∈ A) :
    AgreeOn A (returnFromSubroutine s) (returnFromSubroutine s') := by
  obtain ⟨m, rfl⟩ := h.same.exists_withMem
  exact h.read16Then (f := fun v s => (s.setSp (s.sp + 2)).setPc v) ha ha' fun _ _ _ => rfl

theorem HasMemoryEffect.agreeOn {i : Instr} {effect : State → State} (h : HasMemoryEffect i effect)
    (hs : AgreeOn A s s') (hreads : ∀ addr ∈ readAddrs (dataAccesses i s), addr ∈ A) :
    AgreeOn {addr | addr ∈ writeAddrs (dataAccesses i s) ∨ addr ∈ A} (effect s) (effect s') := by
  obtain ⟨m, rfl⟩ := hs.same.exists_withMem
  cases h with
  | movFromM dst =>
    have ha : s.hl ∈ A := by simpa [readAddrs] using hreads
    exact (hs.readThen ha (memoryFree_writeReg dst)).mono (by simp [writeAddrs])
  | aluM op =>
    have ha : s.hl ∈ A := by simpa [readAddrs] using hreads
    exact (hs.readThen ha (memoryFree_accumulate op)).mono (by simp [writeAddrs])
  | lda src =>
    have ha : src ∈ A := by simpa [dataAccesses, readAddrs] using hreads
    exact (hs.readThen ha (memoryFree_writeReg .a)).mono (by simp [dataAccesses, writeAddrs])
  | ldax p =>
    have ha : s.readPair p.toPair ∈ A := by simpa [readAddrs] using hreads
    rw [loadIndirect, loadIndirect, State.withMem_readPair]
    exact (hs.readThen ha (memoryFree_writeReg .a)).mono (by simp [writeAddrs])
  | lhld src =>
    obtain ⟨ha, ha'⟩ : src ∈ A ∧ src + 1 ∈ A := by simpa [dataAccesses, readAddrs] using hreads
    exact (hs.read16Then ha ha' (memoryFree_writePair .hl)).mono (by simp [dataAccesses, writeAddrs])
  | ret =>
    obtain ⟨ha, ha'⟩ : s.sp ∈ A ∧ s.sp + 1 ∈ A := by simpa [dataAccesses, readAddrs] using hreads
    exact (hs.returnFromSubroutine ha ha').mono (by simp [dataAccesses, writeAddrs])
  | movToM src =>
    rw [storeToM, storeToM, State.withMem_readReg]
    exact (hs.writeByte s.hl (s.readReg src)).mono (by simp [writeAddrs])
  | mviM data => exact (hs.writeByte s.hl data).mono (by simp [writeAddrs])
  | sta dst => exact (hs.writeByte dst s.a).mono (by simp [dataAccesses, writeAddrs])
  | stax p =>
    rw [storeIndirect, storeIndirect, State.withMem_readPair]
    exact (hs.writeByte (s.readPair p.toPair) s.a).mono (by simp [writeAddrs])
  | shld dst =>
    exact ((hs.writeByte dst (loByte s.hl)).writeByte (dst + 1) (hiByte s.hl)).mono
      (by simp [dataAccesses, writeAddrs, or_assoc, or_left_comm])
  | call target =>
    exact (hs.callSubroutine target).mono (by simp [dataAccesses, writeAddrs, or_assoc, or_left_comm])
  | inrM =>
    have ha : s.hl ∈ A := by simpa [readAddrs] using hreads
    exact (hs.increment_m ha).mono (by simp [writeAddrs])
  | dcrM =>
    have ha : s.hl ∈ A := by simpa [readAddrs] using hreads
    exact (hs.decrement_m ha).mono (by simp [writeAddrs])

/-- R58: where two states agree on the data that an instruction reads, its effects on the two agree on every cell that it
writes and wherever the states agreed. -/
theorem HasEffect.agreeOn {i : Instr} {effect : State → State} (h : HasEffect i effect) (hs : AgreeOn A s s')
    (hreads : ∀ addr ∈ readAddrs (dataAccesses i s), addr ∈ A) :
    AgreeOn {addr | addr ∈ writeAddrs (dataAccesses i s) ∨ addr ∈ A} (effect s) (effect s') := by
  rcases h.memoryFree_or_memoryEffect with ⟨hfree, hnone⟩ | hmem
  · exact (hs.memoryFree hfree).mono (by simp [hnone, writeAddrs])
  · exact hmem.agreeOn hs hreads

/-- The same for `exec` of any instruction, the trap included. -/
theorem exec_agreeOn (i : Instr) (hs : AgreeOn A s s') (hreads : ∀ addr ∈ readAddrs (dataAccesses i s), addr ∈ A) :
    ∃ t t', exec i s = .next t ∧ exec i s' = .next t' ∧
      AgreeOn {addr | addr ∈ writeAddrs (dataAccesses i s) ∨ addr ∈ A} t t' := by
  rcases unimplemented_or_hasEffect i with ⟨op, rfl⟩ | ⟨effect, he⟩
  · exact ⟨_, _, rfl, rfl, (hs.memoryFree (memoryFree_takeTrap op)).mono (by simp [dataAccesses, writeAddrs])⟩
  · have hconfig : s'.config = s.config := by
      obtain ⟨m, rfl⟩ := hs.same.exists_withMem
      rfl
    have heffect := he.agreeOn (hs.memoryFree (memoryFree_advancePc i.length)) (by rwa [dataAccesses_advancePc])
    rw [dataAccesses_advancePc] at heffect
    refine ⟨_, _, he.exec_eq s, he.exec_eq s', ?_⟩
    rw [afterExec, afterExec, hconfig]
    exact heffect.memoryFree (memoryFree_returnCycles _)

/-! ### The fetch -/

/-- R76: the length of the fetched instruction is what its opcode says. -/
theorem State.length_fetch {s : State} (h : s.config.implements (s.readByte s.pc) = true) :
    s.fetch.length = opcodeLength (s.readByte s.pc) := by
  rw [State.fetch, decodeInstr_implemented h, length_decodeOpcode _ _ _ (Config.implements_default h)]

/-- R70, R58: the fetch depends on no cell but those that the access list reads. -/
theorem AgreeOn.fetch_eq (h : AgreeOn A s s') (hreads : ∀ addr ∈ readAddrs (accesses s.fetch s), addr ∈ A) :
    s'.fetch = s.fetch := by
  obtain ⟨m, rfl⟩ := h.same.exists_withMem
  have hop : (s.withMem m).readByte s.pc = s.readByte s.pc := h.read s.pc (hreads _ (pc_mem_readAddrs _ s))
  cases himp : s.config.implements (s.readByte s.pc) with
  | false =>
    rw [State.fetch_of_not_implements himp, State.fetch_of_not_implements (s := s.withMem m) (hop ▸ himp)]
    exact congrArg Instr.unimplemented hop
  | true =>
    have hlen := State.length_fetch himp
    have hcases := opcodeLength_cases (s.readByte s.pc)
    have hb1 (_ : opcodeLength (s.readByte s.pc) ≥ 2) : (s.withMem m).readByte (s.pc + 1) = s.readByte (s.pc + 1) :=
      h.read _ (hreads _ (pc_add_one_mem_readAddrs s (by omega)))
    have hb2 (_ : opcodeLength (s.readByte s.pc) = 3) : (s.withMem m).readByte (s.pc + 2) = s.readByte (s.pc + 2) :=
      h.read _ (hreads _ (pc_add_two_mem_readAddrs s (by omega)))
    calc (s.withMem m).fetch
      _ = decodeInstr s.config (s.readByte s.pc) ((s.withMem m).readByte (s.pc + 1))
            ((s.withMem m).readByte (s.pc + 2)) := congrArg (decodeInstr s.config · _ _) hop
      _ = s.fetch := decodeInstr_congr _ _ _ _ _ _ hb1 hb2

end

/-- R66: a byte written at `pc` is the opcode that the fetch decodes, and the bytes after it are as they were. -/
theorem State.fetch_writeByte_pc (s : State) (v : Byte) :
    (s.writeByte s.pc v).fetch = decodeInstr s.config v (s.readByte (s.pc + 1)) (s.readByte (s.pc + 2)) := by
  have h1 : s.pc + 1 ≠ s.pc := by bv_omega
  have h2 : s.pc + 2 ≠ s.pc := by bv_omega
  rw [State.fetch, State.writeByte_pc, State.writeByte_config, State.readByte_writeByte_same,
    State.readByte_writeByte_of_ne s v h1, State.readByte_writeByte_of_ne s v h2]

/-- R66: after an instruction whose effect writes a byte right after it, the next fetch decodes that byte. -/
theorem fetch_afterExec_of_writeByte {i : Instr} {effect : State → State} {s : State} {v : Byte}
    (h : effect (s.advancePc i.length) = (s.advancePc i.length).writeByte (nextAddr i s) v) :
    (afterExec i effect s).fetch =
      decodeInstr s.config v (s.readByte (nextAddr i s + 1)) (s.readByte (nextAddr i s + 2)) := by
  rw [afterExec, h]
  exact State.fetch_writeByte_pc (s.advancePc i.length) v

/-! ### The canonical form (log 13) -/

/-- A memory in canonical form lists exactly the cells that do not read as 0x00. -/
theorem Memory.mem_iff_read {m : Memory} (h : m.wf) (a : Nat) (v : Byte) : (a, v) ∈ m ↔ v ≠ 0 ∧ m.read a = v := by
  induction m with
  | nil =>
    rw [Memory.read_nil]
    exact ⟨fun hx => absurd hx List.not_mem_nil, fun ⟨hv, hr⟩ => absurd hr.symm hv⟩
  | cons x rest ih =>
    obtain ⟨k, w⟩ := x
    obtain ⟨hsorted, hcells⟩ := h
    rw [List.pairwise_cons] at hsorted
    rw [List.forall_mem_cons] at hcells
    obtain ⟨hlt, hsorted⟩ := hsorted
    obtain ⟨⟨-, hw⟩, hcells⟩ := hcells
    rw [List.mem_cons, Memory.read]
    by_cases hk : k = a
    · subst hk
      have hnot : (k, v) ∉ rest := fun hx => Nat.lt_irrefl k (hlt (k, v) hx)
      rw [if_pos rfl, or_iff_left hnot]
      constructor
      · rintro ⟨⟩
        exact ⟨hw, rfl⟩
      · rintro ⟨-, rfl⟩
        rfl
    · rw [if_neg hk, or_iff_right (fun h => hk (congrArg Prod.fst h).symm), ih ⟨hsorted, hcells⟩]

theorem Memory.subset_of_read_eq {m m' : Memory} (h : m.wf) (h' : m'.wf)
    (hread : ∀ a, a < 65536 → m.read a = m'.read a) : m ⊆ m' := by
  rintro ⟨a, v⟩ hx
  obtain ⟨hv, hr⟩ := (Memory.mem_iff_read h a v).1 hx
  obtain ⟨ha, -⟩ := h.2 (a, v) hx
  exact (Memory.mem_iff_read h' a v).2 ⟨hv, (hread a ha).symm.trans hr⟩

/-- Rising addresses repeat no cell. -/
theorem Memory.nodup {m : Memory} (h : m.wf) : m.Nodup :=
  List.Pairwise.imp (fun hlt => ne_of_apply_ne Prod.fst (Nat.ne_of_lt hlt)) h.1

/-! ### The obligations -/

/-- Settles O48: the two states fetch the same instruction, and it does the same to both. -/
theorem stepDependsOnlyOnListedCells : Obligations.StepDependsOnlyOnListedCells := by
  unfold Obligations.StepDependsOnlyOnListedCells
  intro s s' hsame hrun hreads
  have hs : AgreeOn {addr | s'.readByte addr = s.readByte addr} s s' := ⟨hsame, fun _ h => h⟩
  have hrun' : s'.Running := by
    obtain ⟨m, rfl⟩ := hsame.exists_withMem
    exact hrun
  obtain ⟨t, t', ht, ht', hagree⟩ := exec_agreeOn s.fetch hs fun addr h => hreads addr (mem_readAddrs_of_dataAccesses h)
  refine ⟨t, t', (step_running hrun).trans ht, ?_, hagree.same, ?_⟩
  · rw [step_running hrun', hs.fetch_eq hreads, ht']
  · rw [writeAddrs_accesses]
    exact hagree.read

/-- Settles O8: the two addresses differ, so the second write leaves the low byte. -/
theorem wordStoreRoundTrip : Obligations.WordStoreRoundTrip := by
  unfold Obligations.WordStoreRoundTrip
  intro s addr other v
  have hlo : (s.write16 addr v).readByte addr = loByte v := by
    rw [State.readByte_write16, if_neg (by bv_omega), if_pos rfl]
  have hhi : (s.write16 addr v).readByte (addr + 1) = hiByte v := by
    rw [State.readByte_write16, if_pos rfl]
  refine ⟨?_, ?_, ?_, fun hne hne' => ?_, rfl⟩
  · rw [State.read16, hlo, hhi, joinBytes_hi_lo]
  · rw [hlo, loByte_toNat]
  · rw [hhi, hiByte_toNat]
  · rw [State.readByte_write16, if_neg hne', if_neg hne]

/-- Settles O9: both lists hold the cells that do not read as 0x00, in rising order. -/
theorem canonicalMemoryIsUnique : Obligations.CanonicalMemoryIsUnique := by
  unfold Obligations.CanonicalMemoryIsUnique
  intro m m' h h' hread
  have hsub : m ⊆ m' := Memory.subset_of_read_eq h h' hread
  have hsub' : m' ⊆ m := Memory.subset_of_read_eq h' h fun a ha => (hread a ha).symm
  have hperm : m.Perm m' :=
    (List.subperm_of_subset (Memory.nodup h) hsub).antisymm (List.subperm_of_subset (Memory.nodup h') hsub')
  exact hperm.eq_of_pairwise (fun _ _ _ _ hlt hgt => absurd hlt (Nat.lt_asymm hgt)) h.1 h'.1

/-- Settles O47: the trap changes no cell, and an effect only those listed. -/
theorem stepWritesOnlyListedCells : Obligations.StepWritesOnlyListedCells := by
  unfold Obligations.StepWritesOnlyListedCells
  intro s t hstep addr ha
  obtain ⟨-, hexec⟩ := step_next hstep
  rcases exec_inversion hexec with ⟨op, -, rfl⟩ | ⟨effect, he, rfl⟩
  · exact State.takeTrap_readByte s op addr
  · rw [writeAddrs_accesses, ← dataAccesses_advancePc _ s s.fetch.length] at ha
    rw [afterExec_readByte, he.readByte_eq ha, State.advancePc_readByte]

/-- Settles O55: either store is a byte write at the address that `pc` has advanced to. -/
theorem storeIsSeenByNextFetch : Obligations.StoreIsSeenByNextFetch := by
  unfold Obligations.StoreIsSeenByNextFetch
  intro s src
  refine ⟨⟨_, (HasEffect.sta (s.pc + 3)).exec_eq s, ?_⟩, fun hhl => ⟨_, (HasEffect.movToM src).exec_eq s, ?_⟩⟩
  · have hnext : nextAddr (.sta (s.pc + 3)) s = s.pc + 3 := rfl
    rw [fetch_afterExec_of_writeByte (v := s.a) rfl, hnext, BitVec.add_assoc, BitVec.add_assoc]
    rfl
  · have hnext : nextAddr (.movToM src) s = s.pc + 1 := by
      rw [nextAddr, Instr.length_movToM]
      rfl
    rw [fetch_afterExec_of_writeByte (v := s.readReg src), hnext, BitVec.add_assoc, BitVec.add_assoc]
    · rfl
    · rw [storeToM, State.advancePc_hl, hhl, State.advancePc_readReg, hnext]

/-- Settles O6. -/
theorem byteWriteThenRead : Obligations.ByteWriteThenRead := by
  unfold Obligations.ByteWriteThenRead
  exact fun s addr _ v => ⟨State.readByte_writeByte_same s addr v, State.readByte_writeByte_of_ne s v, rfl⟩

/-- Settles O7: addition of words is modulo 65536. -/
theorem wordReadIsLittleEndian : Obligations.WordReadIsLittleEndian := by
  unfold Obligations.WordReadIsLittleEndian
  intro s addr
  have hnext : s.readByte (addr + 1) = s.mem.read ((addr.toNat + 1) % 65536) := by
    rw [State.readByte, BitVec.toNat_add]
    rfl
  rw [State.read16, joinBytes_toNat, hnext, Nat.mul_comm, Nat.add_comm]

end Sys2Proof.Machine
end

section
/-! PROOFS of the family 30_encoding.md, with the lemmas they need. -/

namespace Sys2Proof.Machine

/-! ### Decoding what was encoded -/

open Laws.OpcodeDecodes in
/-- R78, R91: the family `OpcodeDecodes`, for every instruction at once. -/
theorem opcodeDecodes (i : Instr) : Statement i :=
  match i with
  | .movBB => movBB | .movBC => movBC | .movBD => movBD | .movBE => movBE | .movBH => movBH | .movBL => movBL
  | .movBA => movBA | .movCB => movCB | .movCC => movCC | .movCD => movCD | .movCE => movCE | .movCH => movCH
  | .movCL => movCL | .movCA => movCA | .movDB => movDB | .movDC => movDC | .movDD => movDD | .movDE => movDE
  | .movDH => movDH | .movDL => movDL | .movDA => movDA | .movEB => movEB | .movEC => movEC | .movED => movED
  | .movEE => movEE | .movEH => movEH | .movEL => movEL | .movEA => movEA | .movHB => movHB | .movHC => movHC
  | .movHD => movHD | .movHE => movHE | .movHH => movHH | .movHL => movHL | .movHA => movHA | .movLB => movLB
  | .movLC => movLC | .movLD => movLD | .movLE => movLE | .movLH => movLH | .movLL => movLL | .movLA => movLA
  | .movAB => movAB | .movAC => movAC | .movAD => movAD | .movAE => movAE | .movAH => movAH | .movAL => movAL
  | .movAA => movAA | .movBM => movBM | .movCM => movCM | .movDM => movDM | .movEM => movEM | .movHM => movHM
  | .movLM => movLM | .movAM => movAM | .movMB => movMB | .movMC => movMC | .movMD => movMD | .movME => movME
  | .movMH => movMH | .movML => movML | .movMA => movMA | .mviB x => mviB x | .mviC x => mviC x | .mviD x => mviD x
  | .mviE x => mviE x | .mviH x => mviH x | .mviL x => mviL x | .mviM x => mviM x | .mviA x => mviA x
  | .lxiB w => lxiB w | .lxiD w => lxiD w | .lxiH w => lxiH w | .lxiSP w => lxiSP w | .staxB => staxB
  | .ldaxB => ldaxB | .staxD => staxD | .ldaxD => ldaxD | .sta w => sta w | .lda w => lda w | .shld w => shld w
  | .lhld w => lhld w | .xchg => xchg | .addB => addB | .addC => addC | .addD => addD | .addE => addE | .addH => addH
  | .addL => addL | .addM => addM | .addA => addA | .adi x => adi x | .adcB => adcB | .adcC => adcC | .adcD => adcD
  | .adcE => adcE | .adcH => adcH | .adcL => adcL | .adcM => adcM | .adcA => adcA | .aci x => aci x | .subB => subB
  | .subC => subC | .subD => subD | .subE => subE | .subH => subH | .subL => subL | .subM => subM | .subA => subA
  | .sui x => sui x | .sbbB => sbbB | .sbbC => sbbC | .sbbD => sbbD | .sbbE => sbbE | .sbbH => sbbH | .sbbL => sbbL
  | .sbbM => sbbM | .sbbA => sbbA | .sbi x => sbi x | .inrB => inrB | .inrC => inrC | .inrD => inrD | .inrE => inrE
  | .inrH => inrH | .inrL => inrL | .inrM => inrM | .inrA => inrA | .dcrB => dcrB | .dcrC => dcrC | .dcrD => dcrD
  | .dcrE => dcrE | .dcrH => dcrH | .dcrL => dcrL | .dcrM => dcrM | .dcrA => dcrA | .inxB => inxB | .inxD => inxD
  | .inxH => inxH | .inxSP => inxSP | .dcxB => dcxB | .dcxD => dcxD | .dcxH => dcxH | .dcxSP => dcxSP | .dadB => dadB
  | .dadD => dadD | .dadH => dadH | .dadSP => dadSP | .daa => daa | .anaB => anaB | .anaC => anaC | .anaD => anaD
  | .anaE => anaE | .anaH => anaH | .anaL => anaL | .anaM => anaM | .anaA => anaA | .ani x => ani x | .xraB => xraB
  | .xraC => xraC | .xraD => xraD | .xraE => xraE | .xraH => xraH | .xraL => xraL | .xraM => xraM | .xraA => xraA
  | .xri x => xri x | .oraB => oraB | .oraC => oraC | .oraD => oraD | .oraE => oraE | .oraH => oraH | .oraL => oraL
  | .oraM => oraM | .oraA => oraA | .ori x => ori x | .cmpB => cmpB | .cmpC => cmpC | .cmpD => cmpD | .cmpE => cmpE
  | .cmpH => cmpH | .cmpL => cmpL | .cmpM => cmpM | .cmpA => cmpA | .cpi x => cpi x | .rlc => rlc | .rrc => rrc
  | .ral => ral | .rar => rar | .cma => cma | .stc => stc | .cmc => cmc | .jnz w => jnz w | .jmp w => jmp w
  | .jz w => jz w | .jnc w => jnc w | .jc w => jc w | .jpo w => jpo w | .jpe w => jpe w | .jp w => jp w
  | .jm w => jm w | .ret => ret | .call w => call w | .unimplemented op => unimplemented op

/-- R78, R86: `opcodeDecodes` without its premise, since every instruction but the trap is well formed for the default
build. -/
theorem decodeOpcode_opcode {i : Instr} (h : ∀ op, i ≠ .unimplemented op) :
    decodeOpcode i.opcode (i.immediates.getD 0 0) (i.immediates.getD 1 0) = i := by
  have himp : defaultConfig.implements i.opcode = true := by
    rw [Config.implements, defaultImplemented_opcode i h]
    rfl
  exact (opcodeDecodes i ((WellFormed_of_ne _ i h).trans himp)).1

/-- R76: an instruction's opcode asks for as many immediates as the instruction has. -/
theorem opcodeLength_opcode_sub_one {i : Instr} (h : ∀ op, i ≠ .unimplemented op) :
    opcodeLength i.opcode - 1 = i.immediates.length := by
  rw [opcodeLength_opcode i h, Instr.length, Nat.add_sub_cancel_left]

/-- R84: the decision on an instruction's opcode sees its immediates, whatever bytes follow them. -/
theorem decodeInstr_opcode {c : Config} {i : Instr} (h : ∀ op, i ≠ .unimplemented op)
    (himp : c.implements i.opcode = true) (rest : List Byte) :
    decodeInstr c i.opcode ((i.immediates ++ rest).getD 0 0) ((i.immediates ++ rest).getD 1 0) = i := by
  have hlen := opcodeLength_opcode_sub_one h
  calc decodeInstr c i.opcode ((i.immediates ++ rest).getD 0 0) ((i.immediates ++ rest).getD 1 0)
    _ = decodeInstr c i.opcode (i.immediates.getD 0 0) (i.immediates.getD 1 0) :=
        decodeInstr_congr _ _ _ _ _ _ (fun _ => List.getD_append _ _ _ _ (by omega))
          (fun _ => List.getD_append _ _ _ _ (by omega))
    _ = decodeOpcode i.opcode (i.immediates.getD 0 0) (i.immediates.getD 1 0) := decodeInstr_implemented himp _ _
    _ = i := decodeOpcode_opcode h

/-! ### Encoding what was decoded -/

/-- The immediates that the decision takes are the first bytes of the list. -/
theorem take_getD_getD {l : List Byte} {k : Nat} (hk : k ≤ 2) (hl : k ≤ l.length) :
    [l.getD 0 0, l.getD 1 0].take k = l.take k := by
  match k, l, hl with
  | 0, _, _ => rfl
  | 1, _ :: _, _ => rfl
  | 2, _ :: _ :: _, _ => rfl

/-- R72, R84: the bytes of an implemented opcode's decision are the opcode and the immediates that it took. -/
theorem encode_decodeOpcode {op : Byte} {rest : List Byte} (h : defaultImplemented op = true)
    (hl : opcodeLength op ≤ rest.length + 1) :
    encode (decodeOpcode op (rest.getD 0 0) (rest.getD 1 0)) = op :: rest.take (opcodeLength op - 1) := by
  have hk : opcodeLength op - 1 ≤ 2 := by
    have := opcodeLength_cases op
    omega
  rw [encode, opcode_decodeOpcode, immediates_decodeOpcode op _ _ h, take_getD_getD hk (by omega)]

/-- R86: what an opcode in `IMPLEMENTED` decides is well formed. -/
theorem wellFormed_decodeOpcode {c : Config} {op : Byte} (h : c.implements op = true) (b1 b2 : Byte) :
    WellFormed c (decodeOpcode op b1 b2) = true := by
  have hne := decodeOpcode_ne_unimplemented op b1 b2 (Config.implements_default h)
  rw [WellFormed_of_ne _ _ hne, opcode_decodeOpcode, h]

/-- One inversion for `decode`: the trap of an opcode outside `IMPLEMENTED`, or the decision on the bytes that follow an
opcode inside. -/
theorem decode_inversion {c : Config} {bytes tail : List Byte} {i : Instr} (h : decode c bytes = .ok (i, tail)) :
    ∃ op rest, bytes = op :: rest ∧
      ((c.implements op = false ∧ i = .unimplemented op ∧ tail = rest) ∨
        (c.implements op = true ∧ i = decodeOpcode op (rest.getD 0 0) (rest.getD 1 0) ∧
          tail = rest.drop (opcodeLength op - 1) ∧ opcodeLength op ≤ rest.length + 1)) := by
  cases bytes with
  | nil => cases h
  | cons op rest =>
    refine ⟨op, rest, rfl, ?_⟩
    cases himp : c.implements op with
    | false =>
      rw [decode_unimplemented rest himp] at h
      cases h
      exact .inl ⟨rfl, rfl, rfl⟩
    | true =>
      obtain ⟨hi, htail, hlen⟩ := decode_ok himp h
      exact .inr ⟨rfl, hi.trans (decodeInstr_implemented himp _ _), htail, hlen⟩

/-! ### The bytes at `pc` -/

@[simp] theorem State.length_bytesAt (s : State) (addr : Word) (n : Nat) : (s.bytesAt addr n).length = n := by
  induction n generalizing addr with
  | zero => rfl
  | succ n ih => rw [State.bytesAt, List.length_cons, ih]

theorem State.getD_bytesAt (s : State) (addr : Word) {n k : Nat} (h : k < n) :
    (s.bytesAt addr n).getD k 0 = s.readByte (addr + BitVec.ofNat 16 k) := by
  induction n generalizing addr k with
  | zero => exact absurd h (Nat.not_lt_zero k)
  | succ n ih =>
    cases k with
    | zero => exact congrArg s.readByte (BitVec.add_zero addr).symm
    | succ k =>
      have haddr : addr + 1 + BitVec.ofNat 16 k = addr + BitVec.ofNat 16 (k + 1) := by bv_omega
      rw [State.bytesAt, List.getD_cons_succ, ih _ (Nat.lt_of_succ_lt_succ h), haddr]

/-- R70, R75: what the bytes at `pc` decode to is what the fetch gives, however many of them there are. -/
theorem State.fetch_of_decode_bytesAt {s : State} {n : Nat} {i : Instr} {tail : List Byte}
    (h : decode s.config (s.bytesAt s.pc n) = .ok (i, tail)) : s.fetch = i := by
  cases n with
  | zero => cases h
  | succ n =>
    obtain ⟨op, rest, hbytes, hcases⟩ := decode_inversion h
    obtain ⟨rfl, rfl⟩ : s.readByte s.pc = op ∧ s.bytesAt (s.pc + 1) n = rest := List.cons.inj hbytes
    rcases hcases with ⟨himp, rfl, -⟩ | ⟨himp, rfl, -, hlen⟩
    · exact State.fetch_of_not_implements himp
    · rw [State.length_bytesAt] at hlen
      rw [State.fetch, ← decodeInstr_implemented himp]
      refine decodeInstr_congr _ _ _ _ _ _ (fun _ => ?_) (fun _ => ?_)
      · rw [State.getD_bytesAt s _ (by omega), BitVec.add_zero]
      · rw [State.getD_bytesAt s _ (by omega), BitVec.add_assoc]
        rfl

/-! ### The obligations -/

/-- Settles O1: the trap is one byte, and any other instruction's opcode asks for exactly its immediates. -/
theorem decodeOfEncodeIsIdentity : Obligations.DecodeOfEncodeIsIdentity := by
  unfold Obligations.DecodeOfEncodeIsIdentity
  intro c i rest hwf
  by_cases htrap : ∃ op, i = .unimplemented op
  · obtain ⟨op, rfl⟩ := htrap
    rw [WellFormed_unimplemented, Bool.not_eq_true'] at hwf
    exact decode_unimplemented rest hwf
  · have hne := not_exists.1 htrap
    rw [WellFormed_of_ne c i hne] at hwf
    have hlen := opcodeLength_opcode_sub_one hne
    have hle : opcodeLength i.opcode ≤ (i.immediates ++ rest).length + 1 := by
      rw [List.length_append]
      omega
    rw [encode, List.cons_append, decode_some hwf hle, decodeInstr_opcode hne hwf, List.drop_left' hlen.symm]

/-- Settles O2: the immediates taken and the bytes left over make up the list. -/
theorem encodeOfDecodeIsIdentity : Obligations.EncodeOfDecodeIsIdentity := by
  unfold Obligations.EncodeOfDecodeIsIdentity
  intro c bytes i tail hdecode
  obtain ⟨op, rest, rfl, ⟨himp, rfl, rfl⟩ | ⟨himp, rfl, rfl, hlen⟩⟩ := decode_inversion hdecode
  · refine ⟨rfl, ?_⟩
    rw [WellFormed_unimplemented, himp]
    rfl
  · refine ⟨?_, wellFormed_decodeOpcode himp _ _⟩
    rw [encode_decodeOpcode (Config.implements_default himp) hlen, List.cons_append, List.take_append_drop]

/-- Settles O3: an implemented opcode decodes when its immediates are there, and only then. -/
theorem opcodeDecidesLength : Obligations.OpcodeDecidesLength := by
  unfold Obligations.OpcodeDecidesLength
  intro c op rest
  refine ⟨decode_unimplemented rest, fun himp => ⟨⟨?_, fun hlen => ⟨_, _, decode_some himp hlen⟩⟩, ?_⟩⟩
  · rintro ⟨i, tail, hdecode⟩
    obtain ⟨-, -, hlen⟩ := decode_ok himp hdecode
    exact hlen
  · intro i tail hdecode
    obtain ⟨rfl, htail, -⟩ := decode_ok himp hdecode
    refine ⟨opcode_decodeInstr c op _ _, ?_, htail⟩
    rw [decodeInstr_implemented himp, length_decodeOpcode op _ _ (Config.implements_default himp)]

/-- Settles O45: an opcode outside `IMPLEMENTED` is fetched as the trap, and every other instruction keeps the
status. -/
theorem onlyUnimplementedOpcodesTrap : Obligations.OnlyUnimplementedOpcodesTrap := by
  unfold Obligations.OnlyUnimplementedOpcodesTrap
  intro s hrun
  rw [step_running hrun]
  cases himp : s.config.implements (s.readByte s.pc) with
  | false =>
    rw [State.fetch_of_not_implements himp, exec_unimplemented]
    refine ⟨_, rfl, by simp [State.Running], fun pc0 op htrap => ?_⟩
    cases htrap
    exact ⟨rfl, rfl⟩
  | true =>
    obtain ⟨t, hexec, hkeeps, -⟩ := exec_keeps s.fetch s (State.fetch_ne_unimplemented himp)
    have hrun' : t.trap = .running := hkeeps.trap.trans hrun
    refine ⟨t, hexec, iff_of_true hrun' rfl, fun pc0 op htrap => ?_⟩
    rw [hrun'] at htrap
    cases htrap

/-- Settles O4: each word, evaluated. -/
theorem wordsOfTheSpecDecode : Obligations.WordsOfTheSpecDecode := by
  unfold Obligations.WordsOfTheSpecDecode
  exact ⟨rfl, rfl, rfl, rfl, rfl, rfl, rfl, rfl⟩

/-- Settles O5: the fetch gives what the bytes at `pc` decode to. -/
theorem stepRunsDecodedInstruction : Obligations.StepRunsDecodedInstruction := by
  unfold Obligations.StepRunsDecodedInstruction
  intro s n i rest hrun hdecode
  rw [step_running hrun, State.fetch_of_decode_bytesAt hdecode]

end Sys2Proof.Machine
end

section
/-! PROOFS of the family 40_data_transfer.md, with the lemmas they need. -/

namespace Sys2Proof.Machine

/-! ### Frames: composition, and one lemma for each shared operation -/

theorem Frame.trans {R R' : List Reg} {F F' : List Flag} {A A' : List Word} {s t u : State}
    (h : Frame R F A s t) (h' : Frame R' F' A' t u) : Frame (R ++ R') (F ++ F') (A ++ A') s u where
  regs r hr := by
    rw [List.mem_append, not_or] at hr
    rw [h'.regs r hr.2, h.regs r hr.1]
  flags k hk hF := by
    rw [h'.flags k hk fun x hx => hF x (List.mem_append_right F hx),
      h.flags k hk fun x hx => hF x (List.mem_append_left F' hx)]
  mem addr ha := by
    rw [List.mem_append, not_or] at ha
    rw [h'.mem addr ha.2, h.mem addr ha.1]
  trap := h'.trap.trans h.trap
  config := h'.config.trans h.config
  free := h'.free.trans h.free

theorem Frame.mono_regs {R R' : List Reg} {F : List Flag} {A : List Word} {s t : State} (h : Frame R F A s t)
    (hR : R ⊆ R') : Frame R' F A s t :=
  { h with regs := fun r hr => h.regs r fun hmem => hr (hR hmem) }

/-- The advance of `pc` and the return of the count are outside what a frame speaks of. -/
theorem Frame.afterExec {R : List Reg} {F : List Flag} {A : List Word} {i : Instr} {effect : State → State} {s : State}
    (h : Frame R F A (s.advancePc i.length) (effect (s.advancePc i.length))) : Frame R F A s (afterExec i effect s) where
  regs r hr := by simpa [Machine.afterExec] using h.regs r hr
  flags := h.flags
  mem := h.mem
  trap := h.trap
  config := h.config
  free := h.free

theorem frame_writeReg (s : State) (r : Reg) (v : Byte) : Frame [r] [] [] s (s.writeReg r v) where
  regs r' hr := by rw [State.readReg_writeReg, if_neg (List.ne_of_not_mem_cons hr)]
  flags _ _ _ := by rw [State.writeReg_f]
  mem addr _ := State.writeReg_readByte s r v addr
  trap := State.writeReg_trap s r v
  config := State.writeReg_config s r v
  free := State.writeReg_free s r v

theorem frame_writePair (s : State) (p : Pair) (v : Word) : Frame (pairRegs p) [] [] s (s.writePair p v) where
  regs r hr := State.readReg_writePair_of_notMem s p v r hr
  flags _ _ _ := by rw [State.writePair_f]
  mem addr _ := State.writePair_readByte s p v addr
  trap := State.writePair_trap s p v
  config := State.writePair_config s p v
  free := State.writePair_free s p v

theorem frame_writeByte (s : State) (addr : Word) (v : Byte) : Frame [] [] [addr] s (s.writeByte addr v) where
  regs r _ := State.writeByte_readReg s addr v r
  flags _ _ _ := rfl
  mem _ ha := State.readByte_writeByte_of_ne s v (List.ne_of_not_mem_cons ha)
  trap := rfl
  config := rfl
  free := rfl

theorem frame_write16 (s : State) (addr v : Word) : Frame [] [] [addr, addr + 1] s (s.write16 addr v) :=
  (frame_writeByte s addr _).trans (frame_writeByte _ (addr + 1) _)

/-! ### Pairs and words by their bytes -/

theorem joinBytes_inj {hi lo hi' lo' : Byte} : joinBytes hi lo = joinBytes hi' lo' ↔ hi = hi' ∧ lo = lo' := by
  refine ⟨fun h => ⟨?_, ?_⟩, fun ⟨hhi, hlo⟩ => by rw [hhi, hlo]⟩
  · rw [← hiByte_joinBytes hi lo, h, hiByte_joinBytes]
  · rw [← loByte_joinBytes hi lo, h, loByte_joinBytes]

theorem State.hiByte_hl (s : State) : hiByte s.hl = s.h := hiByte_joinBytes s.h s.l

theorem State.loByte_hl (s : State) : loByte s.hl = s.l := loByte_joinBytes s.h s.l

/-- R53: the low byte of a 16-bit store stays, as the next address is another one. -/
theorem State.readByte_write16_low (s : State) (addr v : Word) : (s.write16 addr v).readByte addr = loByte v := by
  rw [State.readByte_write16, if_neg (by bv_omega), if_pos rfl]

theorem State.readByte_write16_high (s : State) (addr v : Word) :
    (s.write16 addr v).readByte (addr + 1) = hiByte v := by
  rw [State.readByte_write16, if_pos rfl]

/-! ### Completing an instruction whose effect is one write -/

theorem HasEffect.completes {i : Instr} {effect : State → State} (h : HasEffect i effect) (s : State) :
    Completes i s (afterExec i effect s) := ⟨h.exec_eq s, rfl⟩

section
variable {i : Instr} {effect : State → State} {n : Nat} {s : State}

theorem HasEffect.completes_writeReg {r : Reg} {v : Byte} (h : HasEffect i effect) (hlen : i.length = n)
    (heff : effect (s.advancePc n) = (s.advancePc n).writeReg r v) :
    ∃ t, Completes i s t ∧ t.readReg r = v ∧ t.pc = s.pc + BitVec.ofNat 16 n ∧ t.sp = s.sp ∧ Frame [r] [] [] s t := by
  subst hlen
  refine ⟨_, h.completes s, ?_, ?_, ?_, .afterExec (heff ▸ frame_writeReg _ r v)⟩
  · simp [afterExec, heff]
  · simp [afterExec_pc, heff]
  · simp [afterExec_sp, heff]

theorem HasEffect.completes_writeByte {addr : Word} {v : Byte} (h : HasEffect i effect) (hlen : i.length = n)
    (heff : effect (s.advancePc n) = (s.advancePc n).writeByte addr v) :
    ∃ t, Completes i s t ∧ t.readByte addr = v ∧ t.pc = s.pc + BitVec.ofNat 16 n ∧ t.sp = s.sp ∧
      Frame [] [] [addr] s t := by
  subst hlen
  refine ⟨_, h.completes s, ?_, ?_, ?_, .afterExec (heff ▸ frame_writeByte _ addr v)⟩
  · simp [afterExec_readByte, heff]
  · simp [afterExec_pc, heff]
  · simp [afterExec_sp, heff]

theorem HasEffect.completes_writePair {p : Pair} {v : Word} (h : HasEffect i effect) (hlen : i.length = n)
    (heff : effect (s.advancePc n) = (s.advancePc n).writePair p v) :
    ∃ t, Completes i s t ∧ t.readPair p = v ∧ (p ≠ .sp → t.sp = s.sp) ∧ t.pc = s.pc + BitVec.ofNat 16 n ∧
      Frame (pairRegs p) [] [] s t := by
  subst hlen
  refine ⟨_, h.completes s, ?_, fun hp => ?_, ?_, .afterExec (heff ▸ frame_writePair _ p v)⟩
  · simp [afterExec, heff]
  · simp [afterExec_sp, heff, State.sp_writePair, hp]
  · simp [afterExec_pc, heff]

end

/-! ### Opcode patterns, lengths and default counts (R78, R75, R246) -/

theorem hasForm_mov (dst src : Reg) : HasForm (.mov dst src) (0b01#2 ++ dst.code ++ src.code) 1 1 := by
  refine ⟨?_, Instr.length_mov dst src, ?_⟩ <;> cases dst <;> cases src <;> rfl

theorem hasForm_movFromM (dst : Reg) : HasForm (.movFromM dst) (0b01#2 ++ dst.code ++ 0b110#3) 1 2 := by
  refine ⟨?_, Instr.length_movFromM dst, ?_⟩ <;> cases dst <;> rfl

theorem hasForm_movToM (src : Reg) : HasForm (.movToM src) (0b01#2 ++ 0b110#3 ++ src.code) 1 2 := by
  refine ⟨?_, Instr.length_movToM src, ?_⟩ <;> cases src <;> rfl

theorem hasForm_mvi_reg (dst : Reg) (data : Byte) :
    HasForm (.mvi (.reg dst) data) (0b00#2 ++ dst.code ++ 0b110#3) 2 2 := by
  refine ⟨?_, Instr.length_mvi (.reg dst) data, ?_⟩ <;> cases dst <;> rfl

theorem hasForm_lxi (p : Pair) (data : Word) : HasForm (.lxi p data) (0b00#2 ++ p.code ++ 0b0001#4) 3 3 := by
  refine ⟨?_, Instr.length_lxi p data, ?_⟩ <;> cases p <;> rfl

theorem hasForm_ldax (p : IndirectPair) : HasForm (.ldax p) (0b000#3 ++ p.code ++ 0b1010#4) 1 2 := by
  refine ⟨?_, Instr.length_ldax p, ?_⟩ <;> cases p <;> rfl

theorem hasForm_stax (p : IndirectPair) : HasForm (.stax p) (0b000#3 ++ p.code ++ 0b0010#4) 1 2 := by
  refine ⟨?_, Instr.length_stax p, ?_⟩ <;> cases p <;> rfl

/-! ### XCHG (R112) -/

/-- The write of DE, which comes second, leaves H and L. -/
theorem exchange_readPair_hl (s : State) : (exchange s).readPair .hl = s.readPair .de :=
  State.readPair_writePair_same s .hl (s.readPair .de)

theorem exchange_readPair_de (s : State) : (exchange s).readPair .de = s.hl :=
  State.readPair_writePair_same _ .de s.hl

theorem frame_exchange (s : State) : Frame [.d, .e, .h, .l] [] [] s (exchange s) :=
  ((frame_writePair s .hl _).trans (frame_writePair _ .de _)).mono_regs (by decide)

/-! ### The obligations -/

/-- Settles O18: LHLD writes the pair HL, whose bytes are the two read; SHLD is a 16-bit store of HL. -/
theorem lhldAndShldMoveHL : Obligations.LhldAndShldMoveHL := by
  unfold Obligations.LhldAndShldMoveHL
  intro addr s
  constructor
  · obtain ⟨t, hdone, hread, hsp, hpc, hframe⟩ := (HasEffect.lhld addr).completes_writePair (s := s) rfl rfl
    obtain ⟨hh, hl⟩ := joinBytes_inj.1 hread
    exact ⟨⟨rfl, rfl, rfl⟩, t, hdone, hl, hh, hpc, hsp (by decide), hframe⟩
  · refine ⟨⟨rfl, rfl, rfl⟩, _, (HasEffect.shld addr).completes s, ?_, ?_, rfl, rfl, .afterExec (frame_write16 _ addr _)⟩
    · exact (State.readByte_write16_low _ addr _).trans s.loByte_hl
    · exact (State.readByte_write16_high _ addr _).trans s.hiByte_hl

/-- Settles O11: a register write of the source's value. -/
theorem movCopiesRegister : Obligations.MovCopiesRegister := by
  unfold Obligations.MovCopiesRegister
  intro dst src s
  refine ⟨hasForm_mov dst src, (HasEffect.mov dst src).completes_writeReg (Instr.length_mov dst src) ?_⟩
  rw [moveReg, State.advancePc_readReg]

/-- Settles O12: a register write of the byte at HL, which is read before the write. -/
theorem movLoadsFromMemory : Obligations.MovLoadsFromMemory := by
  unfold Obligations.MovLoadsFromMemory
  exact fun dst s => ⟨hasForm_movFromM dst,
    (HasEffect.movFromM dst).completes_writeReg (Instr.length_movFromM dst) rfl⟩

/-- Settles O13: a byte write at HL. -/
theorem movStoresToMemory : Obligations.MovStoresToMemory := by
  unfold Obligations.MovStoresToMemory
  intro src s
  refine ⟨hasForm_movToM src, (HasEffect.movToM src).completes_writeByte (Instr.length_movToM src) ?_⟩
  rw [storeToM, State.advancePc_hl, State.advancePc_readReg]

/-- Settles O14: MVI r is a register write, MVI M a byte write at HL. -/
theorem mviLoadsImmediate : Obligations.MviLoadsImmediate := by
  unfold Obligations.MviLoadsImmediate
  exact fun dst data s =>
    ⟨⟨hasForm_mvi_reg dst data,
      (HasEffect.mvi (.reg dst) data).completes_writeReg (Instr.length_mvi (.reg dst) data) rfl⟩,
    ⟨rfl, rfl, rfl⟩, (HasEffect.mvi .m data).completes_writeByte rfl rfl⟩

/-- Settles O15: a pair write. -/
theorem lxiLoadsPair : Obligations.LxiLoadsPair := by
  unfold Obligations.LxiLoadsPair
  exact fun p data s => ⟨hasForm_lxi p data, (HasEffect.lxi p data).completes_writePair (Instr.length_lxi p data) rfl⟩

/-- Settles O16: both are a write of A. -/
theorem loadsOfAccumulator : Obligations.LoadsOfAccumulator := by
  unfold Obligations.LoadsOfAccumulator
  intro addr p s
  refine ⟨⟨⟨rfl, rfl, rfl⟩, (HasEffect.lda addr).completes_writeReg (r := .a) rfl rfl⟩, hasForm_ldax p,
    (HasEffect.ldax p).completes_writeReg (r := .a) (Instr.length_ldax p) ?_⟩
  rw [loadIndirect, State.advancePc_readPair, State.advancePc_readByte]

/-- Settles O17: both are a byte write of A. -/
theorem storesOfAccumulator : Obligations.StoresOfAccumulator := by
  unfold Obligations.StoresOfAccumulator
  intro addr p s
  refine ⟨⟨⟨rfl, rfl, rfl⟩, (HasEffect.sta addr).completes_writeByte rfl rfl⟩, hasForm_stax p,
    (HasEffect.stax p).completes_writeByte (Instr.length_stax p) ?_⟩
  rw [storeIndirect, State.advancePc_readPair, State.advancePc_a]

/-- Settles O19: the pairs HL and DE read as each other, so their registers do. -/
theorem xchgExchangesPairs : Obligations.XchgExchangesPairs := by
  unfold Obligations.XchgExchangesPairs
  intro s
  obtain ⟨hh, hl⟩ := joinBytes_inj.1 (exchange_readPair_hl (s.advancePc 1))
  obtain ⟨hd, he⟩ := joinBytes_inj.1 (exchange_readPair_de (s.advancePc 1))
  exact ⟨⟨rfl, rfl, rfl⟩, _, HasEffect.xchg.completes s, hh, hl, hd, he, rfl, rfl, .afterExec (frame_exchange _)⟩

end Sys2Proof.Machine
end

section
/-! PROOFS of the family 41_arithmetic.md, with the lemmas they need. -/

namespace Sys2Proof.Machine

/-! ### The flags cell: Z, S, P of a result, and frames -/

section
variable {t : State} {f r a b : Byte} {en : Enables}

theorem szpOf_of_setFlags (hen : en.z = true ∧ en.s = true ∧ en.p = true)
    (hz : t.flag .z = getFlag (setFlags f r en) .z) (hs : t.flag .s = getFlag (setFlags f r en) .s)
    (hp : t.flag .p = getFlag (setFlags f r en) .p) : SzpOf t r := by
  obtain ⟨henz, hens, henp⟩ := hen
  rw [getFlag_setFlags] at hz hs hp
  refine ⟨?_, ?_, ?_⟩
  · simpa [henz, beq_eq_decide] using hz
  · simpa [hens] using hs
  · simpa [henp, evenBits_eq_parity8] using hp

/-- R35: CY may be written again after the helper, as DAA does (R149). -/
theorem szpOf_of_setFlagsAdd {cin : Bool} (hen : en.z = true ∧ en.s = true ∧ en.p = true)
    (h : ∀ y, y ≠ .cy → t.flag y = getFlag (setFlagsAdd f r a b cin en) y) : SzpOf t r :=
  szpOf_of_setFlags hen ((h .z (by decide)).trans (getFlag_setFlagsAdd ..))
    ((h .s (by decide)).trans (getFlag_setFlagsAdd ..)) ((h .p (by decide)).trans (getFlag_setFlagsAdd ..))

theorem szpOf_of_setFlagsSub {rd : SubAcReading} {bin : Bool} (hen : en.z = true ∧ en.s = true ∧ en.p = true)
    (h : ∀ y, t.flag y = getFlag (setFlagsSub rd f r a b bin en) y) : SzpOf t r :=
  szpOf_of_setFlags hen ((h .z).trans (getFlag_setFlagsSub ..)) ((h .s).trans (getFlag_setFlagsSub ..))
    ((h .p).trans (getFlag_setFlagsSub ..))

end

/-- R29, R30: a bit of the flags cell is a padding bit or a flag's. -/
theorem isPadding_or_eq_bit {k : Nat} (hk : k < 8) : IsPadding k ∨ ∃ x : Flag, k = x.bit := by
  have h : k = 0 ∨ k = 1 ∨ k = 2 ∨ k = 3 ∨ k = 4 ∨ k = 5 ∨ k = 6 ∨ k = 7 := by omega
  rcases h with rfl | rfl | rfl | rfl | rfl | rfl | rfl | rfl
  · exact .inr ⟨.cy, rfl⟩
  · exact .inl (by decide)
  · exact .inr ⟨.p, rfl⟩
  · exact .inl (by decide)
  · exact .inr ⟨.ac, rfl⟩
  · exact .inl (by decide)
  · exact .inr ⟨.z, rfl⟩
  · exact .inr ⟨.s, rfl⟩

/-- The flags cell written last: its flags are free in the frame `F`, whatever `t` did to them. -/
theorem Frame.setF {R : List Reg} {F F' : List Flag} {A : List Word} {s t : State} {f : Byte} (h : Frame R F' A s t)
    (hpad : ∀ k, IsPadding k → f.getLsbD k = s.f.getLsbD k) (hflag : ∀ y, y ∉ F → getFlag f y = s.flag y) :
    Frame R F A s (t.setF f) where
  regs r hr := (State.setF_readReg t f r).trans (h.regs r hr)
  flags k hk hF := by
    rcases isPadding_or_eq_bit hk with hk' | ⟨x, rfl⟩
    · exact hpad k hk'
    · exact hflag x fun hx => hF x hx rfl
  mem := h.mem
  trap := h.trap
  config := h.config
  free := h.free

theorem mem_allFlags (x : Flag) : x ∈ allFlags := by cases x <;> decide

theorem frame_setAF (s : State) (a : Byte) {f : Byte} (hpad : ∀ k, IsPadding k → f.getLsbD k = s.f.getLsbD k) :
    Frame [.a] allFlags [] s (s.setAF a f) :=
  (frame_writeReg s .a a).setF hpad fun y hy => absurd (mem_allFlags y) hy

theorem Frame.setFlag {R : List Reg} {F : List Flag} {A : List Word} {s t : State} (h : Frame R F A s t)
    (hf : t.f = s.f) (x : Flag) (v : Bool) : Frame R [x] A s (t.setFlag x v) :=
  h.setF (fun k hk => by rw [padding_setFlag hk, hf]) fun y hy => by
    rw [getFlag_setFlag, if_neg (List.ne_of_not_mem_cons hy), hf, State.flag]

/-! ### Operands written (R79) -/

/-- The register that an operand is, and none for M. -/
def operandRegs : Operand → List Reg
  | .reg r => [r]
  | .m => []

/-- The address of the cell that an operand is: M at `hl`, and none for a register. -/
def operandAddrs (hl : Word) : Operand → List Word
  | .reg _ => []
  | .m => [hl]

/-- An operand read with M at `hl`: after a step, what the step has written at the old HL. -/
def State.readOperandAt (s : State) (hl : Word) : Operand → Byte
  | .reg r => s.readReg r
  | .m => s.readByte hl

theorem frame_writeOperand (s : State) (x : Operand) (v : Byte) :
    Frame (operandRegs x) [] (operandAddrs s.hl x) s (s.writeOperand x v) := by
  cases x with
  | reg r => exact frame_writeReg s r v
  | m => exact frame_writeByte s s.hl v

theorem State.readOperandAt_writeOperand_same (s : State) (x : Operand) (v : Byte) :
    (s.writeOperand x v).readOperandAt s.hl x = v := by
  cases x with
  | reg r => exact State.readReg_writeReg_same s r v
  | m => exact State.readByte_writeByte_same s s.hl v

/-- The flags cell and the count are no operand. -/
theorem State.readOperandAt_setF_returnCycles (s : State) (f : Byte) (n : Nat) (hl : Word) (x : Operand) :
    ((s.setF f).returnCycles n).readOperandAt hl x = s.readOperandAt hl x := by
  cases x <;> simp [State.readOperandAt]

/-- The advance of `pc` changes no operand (R13). -/
@[simp] theorem State.advancePc_readOperand (s : State) (n : Nat) (x : Operand) :
    (s.advancePc n).readOperand x = s.readOperand x := by
  cases x <;> simp [State.readOperand]

/-- CY is the one flag that INR and DCR keep (R142 to R145). -/
theorem eq_cy_of_notMem {y : Flag} : y ∉ [Flag.s, .z, .ac, .p] → y = .cy := by cases y <;> decide

/-! ### Completing an instruction that writes flags -/

section
variable {i : Instr} {effect : State → State} {s : State} {f : Byte}

theorem HasEffect.completes_setAF {a : Byte} (h : HasEffect i effect)
    (heff : effect (s.advancePc i.length) = (s.advancePc i.length).setAF a f)
    (hpad : ∀ k, IsPadding k → f.getLsbD k = s.f.getLsbD k) :
    ∃ t, Completes i s t ∧ t.a = a ∧ (∀ y, t.flag y = getFlag f y) ∧ t.pc = nextAddr i s ∧ t.sp = s.sp ∧
      Frame [.a] allFlags [] s t := by
  refine ⟨_, h.completes s, ?_, fun y => ?_, ?_, ?_, .afterExec (heff ▸ frame_setAF _ a hpad)⟩
  · rw [afterExec, heff, State.returnCycles_a, State.setAF_a]
  · rw [State.flag, afterExec_f, heff, State.setAF_f]
  · rw [afterExec_pc, heff, State.setAF_pc, advancePc_length_pc]
  · rw [afterExec_sp, heff, State.setAF_sp, State.advancePc_sp]

theorem HasEffect.completes_writeOperand {x : Operand} {v : Byte} {n : Nat} (h : HasEffect i effect)
    (hlen : i.length = n) (heff : effect (s.advancePc n) = ((s.advancePc n).writeOperand x v).setF f)
    (hpad : ∀ k, IsPadding k → f.getLsbD k = s.f.getLsbD k) (hcy : getFlag f .cy = s.flag .cy) :
    ∃ t, Completes i s t ∧ t.readOperandAt s.hl x = v ∧ (∀ y, t.flag y = getFlag f y) ∧
      t.pc = s.pc + BitVec.ofNat 16 n ∧ t.sp = s.sp ∧
      Frame (operandRegs x) [.s, .z, .ac, .p] (operandAddrs s.hl x) s t := by
  subst hlen
  refine ⟨_, h.completes s, ?_, fun y => ?_, ?_, ?_,
    .afterExec (heff ▸ (frame_writeOperand (s.advancePc i.length) x v).setF hpad fun y hy => ?_)⟩
  · rw [afterExec, heff, State.readOperandAt_setF_returnCycles]
    exact State.readOperandAt_writeOperand_same (s.advancePc i.length) x v
  · rw [State.flag, afterExec_f, heff, State.setF_f]
  · rw [afterExec_pc, heff, State.setF_pc, State.writeOperand_pc, State.advancePc_pc]
  · rw [afterExec_sp, heff, State.setF_sp, State.writeOperand_sp, State.advancePc_sp]
  · rw [eq_cy_of_notMem hy]
    exact hcy

/-- R13, R85: the operand that an ALU instruction reads after the advance of `pc` is the one before it. -/
theorem aluEffect_advancePc (op : AluOp) (x : Source) (s : State) (n : Nat) :
    aluEffect op x (s.advancePc n) = accumulate op (s.readSource x) (s.advancePc n) := by
  rw [aluEffect, State.advancePc_readSource]

/-- R130 to R135: what an addition into A does, whatever the operand and the carry in. -/
theorem HasEffect.completes_addToA {b : Byte} {cin : Bool} (h : HasEffect i effect)
    (heff : effect (s.advancePc i.length) = addToA b cin (s.advancePc i.length)) :
    ∃ t, Completes i s t ∧ t.a.toNat = (s.a.toNat + b.toNat + cin.toNat) % 256 ∧ SzpOf t t.a ∧
      t.flag .cy = decide (s.a.toNat + b.toNat + cin.toNat > 0xFF) ∧
      t.flag .ac = decide (s.a.toNat % 16 + b.toNat % 16 + cin.toNat > 0xF) ∧
      t.pc = nextAddr i s ∧ t.sp = s.sp ∧ Frame [.a] allFlags [] s t := by
  obtain ⟨t, hdone, ha, hflag, hpc, hsp, hframe⟩ := h.completes_setAF heff fun _ hk => padding_setFlagsAdd hk ..
  refine ⟨t, hdone, ha ▸ add8_toNat .., ha ▸ szpOf_of_setFlagsAdd (by decide) fun y _ => hflag y, ?_, ?_, hpc, hsp,
    hframe⟩
  · exact (hflag .cy).trans (getFlag_setFlagsAdd ..)
  · exact (hflag .ac).trans (getFlag_setFlagsAdd ..)

/-- R136 to R141: what a subtraction from A does; AC is by the parameter `SUB_AC_READING`. -/
theorem HasEffect.completes_subFromA {b : Byte} {bin : Bool} (h : HasEffect i effect)
    (heff : effect (s.advancePc i.length) = subFromA b bin (s.advancePc i.length)) :
    ∃ t, Completes i s t ∧ (t.a.toNat : Int) = ((s.a.toNat : Int) - b.toNat - bin.toNat) % 256 ∧ SzpOf t t.a ∧
      t.flag .cy = decide (s.a.toNat < b.toNat + bin.toNat) ∧
      t.flag .ac = subAuxCarry s.config.subAc s.a b bin ∧
      t.pc = nextAddr i s ∧ t.sp = s.sp ∧ Frame [.a] allFlags [] s t := by
  obtain ⟨t, hdone, ha, hflag, hpc, hsp, hframe⟩ := h.completes_setAF heff fun _ hk => padding_setFlagsSub hk ..
  refine ⟨t, hdone, ha ▸ sub8_toInt .., ha ▸ szpOf_of_setFlagsSub (by decide) hflag, ?_, ?_, hpc, hsp, hframe⟩
  · exact (hflag .cy).trans (getFlag_setFlagsSub ..)
  · exact (hflag .ac).trans (getFlag_setFlagsSub ..)

end

/-! ### Adding and subtracting one -/

theorem addAuxCarry_one (v : Byte) : addAuxCarry v 1 false = decide (v.toNat % 16 = 15) := by
  simp [addAuxCarry, lowNibble]
  omega

theorem sub8_one_toNat (v : Byte) : (sub8 v 1 false).toNat = (v.toNat + 255) % 256 := by
  simp [sub8, BitVec.toNat_sub]
  omega

theorem subAuxCarry_one (rd : SubAcReading) (v : Byte) : subAuxCarry rd v 1 false = decide (v.toNat % 16 = 0) := by
  rw [subAuxCarry_false]
  simp [lowNibble]

/-- R142, R143: INR, for every operand at once; the result is read where the operand was. -/
theorem completes_inr (x : Operand) (s : State) :
    ∃ t, Completes (.inr x) s t ∧ (t.readOperandAt s.hl x).toNat = ((s.readOperand x).toNat + 1) % 256 ∧
      SzpOf t (t.readOperandAt s.hl x) ∧ t.flag .ac = decide ((s.readOperand x).toNat % 16 = 15) ∧
      t.pc = s.pc + 1 ∧ t.sp = s.sp ∧ Frame (operandRegs x) [.s, .z, .ac, .p] (operandAddrs s.hl x) s t := by
  obtain ⟨t, hdone, hread, hflag, hpc, hsp, hframe⟩ := (HasEffect.inr x).completes_writeOperand (s := s)
    (Instr.length_inr x) rfl (fun _ hk => padding_setFlagsAdd hk ..) (getFlag_setFlagsAdd ..)
  rw [State.advancePc_readOperand] at hread hflag
  refine ⟨t, hdone, hread ▸ add8_toNat .., hread ▸ szpOf_of_setFlagsAdd (by decide) fun y _ => hflag y, ?_, hpc, hsp,
    hframe⟩
  calc t.flag .ac = addAuxCarry (s.readOperand x) 1 false := (hflag .ac).trans (getFlag_setFlagsAdd ..)
    _ = _ := addAuxCarry_one _

/-- R144, R145: DCR, for every operand at once. -/
theorem completes_dcr (x : Operand) (s : State) :
    ∃ t, Completes (.dcr x) s t ∧ (t.readOperandAt s.hl x).toNat = ((s.readOperand x).toNat + 255) % 256 ∧
      SzpOf t (t.readOperandAt s.hl x) ∧ t.flag .ac = decide ((s.readOperand x).toNat % 16 = 0) ∧
      t.pc = s.pc + 1 ∧ t.sp = s.sp ∧ Frame (operandRegs x) [.s, .z, .ac, .p] (operandAddrs s.hl x) s t := by
  obtain ⟨t, hdone, hread, hflag, hpc, hsp, hframe⟩ := (HasEffect.dcr x).completes_writeOperand (s := s)
    (Instr.length_dcr x) rfl (fun _ hk => padding_setFlagsSub hk ..) (getFlag_setFlagsSub ..)
  rw [State.advancePc_readOperand] at hread hflag
  refine ⟨t, hdone, hread ▸ sub8_one_toNat _, hread ▸ szpOf_of_setFlagsSub (by decide) hflag, ?_, hpc, hsp, hframe⟩
  calc t.flag .ac = subAuxCarry s.config.subAc (s.readOperand x) 1 false :=
        (hflag .ac).trans (getFlag_setFlagsSub ..)
    _ = _ := subAuxCarry_one ..

/-! ### The correction of DAA (R149) -/

theorem daaLow_iff (s : State) : daaLow s = true ↔ s.a.toNat % 16 > 9 ∨ s.flag .ac = true := by
  simp [daaLow, lowNibble]

theorem daaHigh_iff (s : State) : daaHigh s = true ↔ s.a.toNat > 0x99 ∨ s.flag .cy = true := by
  simp [daaHigh]

/-- The correction byte in the terms of the statements. -/
theorem daaCorrection_eq (s : State) :
    (daaCorrection s).toNat = (if s.a.toNat % 16 > 9 ∨ s.flag .ac = true then 0x06 else 0) +
      (if s.a.toNat > 0x99 ∨ s.flag .cy = true then 0x60 else 0) := by
  simp only [daaCorrection_toNat, daaLow_iff, daaHigh_iff]

/-! ### Opcode patterns, lengths and default counts (R78, R75, R246) -/

theorem aluForm (op : AluOp) (x : Source) : AluForm op x := by
  cases x with
  | reg r => refine ⟨?_, Instr.length_alu_reg op r, ?_⟩ <;> cases op <;> cases r <;> rfl
  | m => refine ⟨?_, Instr.length_alu_m op, ?_⟩ <;> cases op <;> rfl
  | imm data => refine ⟨?_, Instr.length_alu_imm op data, ?_⟩ <;> cases op <;> rfl

theorem hasForm_inr_reg (r : Reg) : HasForm (.inr (.reg r)) (0b00#2 ++ r.code ++ 0b100#3) 1 1 := by
  refine ⟨?_, Instr.length_inr (.reg r), ?_⟩ <;> cases r <;> rfl

theorem hasForm_dcr_reg (r : Reg) : HasForm (.dcr (.reg r)) (0b00#2 ++ r.code ++ 0b101#3) 1 1 := by
  refine ⟨?_, Instr.length_dcr (.reg r), ?_⟩ <;> cases r <;> rfl

theorem hasForm_inx (p : Pair) : HasForm (.inx p) (0b00#2 ++ p.code ++ 0b0011#4) 1 1 := by
  refine ⟨?_, Instr.length_inx p, ?_⟩ <;> cases p <;> rfl

theorem hasForm_dcx (p : Pair) : HasForm (.dcx p) (0b00#2 ++ p.code ++ 0b1011#4) 1 1 := by
  refine ⟨?_, Instr.length_dcx p, ?_⟩ <;> cases p <;> rfl

theorem hasForm_dad (p : Pair) : HasForm (.dad p) (0b00#2 ++ p.code ++ 0b1001#4) 1 3 := by
  refine ⟨?_, Instr.length_dad p, ?_⟩ <;> cases p <;> rfl

/-! ### The obligations -/

/-- Settles O20: an addition into A with no carry in. -/
theorem addAddsToAccumulator : Obligations.AddAddsToAccumulator := by
  unfold Obligations.AddAddsToAccumulator
  intro x s
  exact ⟨aluForm .add x, (HasEffect.alu .add x).completes_addToA (cin := false) (aluEffect_advancePc ..)⟩

/-- Settles O21: an addition into A with the old CY carried in. -/
theorem adcAddsWithCarry : Obligations.AdcAddsWithCarry := by
  unfold Obligations.AdcAddsWithCarry
  intro x s
  exact ⟨aluForm .adc x, (HasEffect.alu .adc x).completes_addToA (cin := s.flag .cy) (aluEffect_advancePc ..)⟩

/-- Settles O22: a subtraction from A with no borrow in, where the readings of `SUB_AC_READING` agree. -/
theorem subSubtractsFromAccumulator : Obligations.SubSubtractsFromAccumulator := by
  unfold Obligations.SubSubtractsFromAccumulator
  intro x s
  obtain ⟨t, hdone, ha, hszp, hcy, hac, hrest⟩ :=
    (HasEffect.alu .sub x).completes_subFromA (bin := false) (aluEffect_advancePc .sub x s _)
  refine ⟨aluForm .sub x, t, hdone, by simpa using ha, hszp, hcy, ?_, hrest⟩
  rw [hac, subAuxCarry_false, lowNibble, lowNibble]

/-- Settles O23: a subtraction from A with the old CY borrowed, each clause on AC by its reading. -/
theorem sbbSubtractsWithBorrow : Obligations.SbbSubtractsWithBorrow := by
  unfold Obligations.SbbSubtractsWithBorrow
  intro x s
  obtain ⟨t, hdone, ha, hszp, hcy, hac, hrest⟩ :=
    (HasEffect.alu .sbb x).completes_subFromA (bin := s.flag .cy) (aluEffect_advancePc .sbb x s _)
  refine ⟨aluForm .sbb x, t, hdone, ha, hszp, hcy, fun hliteral => ?_, fun hnibble => ?_, hrest⟩
  · rw [hac, hliteral, subAuxCarry, lowNibble]
  · rw [hac, hnibble, subAuxCarry, lowNibble, lowNibble]

/-- Settles O24: `completes_inr` for a register and for M. -/
theorem inrIncrementsKeepingCarry : Obligations.InrIncrementsKeepingCarry := by
  unfold Obligations.InrIncrementsKeepingCarry
  exact fun r s => ⟨⟨hasForm_inr_reg r, completes_inr (.reg r) s⟩, ⟨rfl, rfl, rfl⟩, completes_inr .m s⟩

/-- Settles O25: `completes_dcr` for a register and for M. -/
theorem dcrDecrementsKeepingCarry : Obligations.DcrDecrementsKeepingCarry := by
  unfold Obligations.DcrDecrementsKeepingCarry
  exact fun r s => ⟨⟨hasForm_dcr_reg r, completes_dcr (.reg r) s⟩, ⟨rfl, rfl, rfl⟩, completes_dcr .m s⟩

/-- Settles O26: each is a pair write, and words add modulo 65536. -/
theorem inxAndDcxStepPair : Obligations.InxAndDcxStepPair := by
  unfold Obligations.InxAndDcxStepPair
  intro p s
  constructor
  · obtain ⟨t, hdone, hread, hrest⟩ := (HasEffect.inx p).completes_writePair (s := s) (Instr.length_inx p) rfl
    refine ⟨hasForm_inx p, t, hdone, ?_, hrest⟩
    rw [hread, State.advancePc_readPair, BitVec.toNat_add]
    rfl
  · obtain ⟨t, hdone, hread, hrest⟩ := (HasEffect.dcx p).completes_writePair (s := s) (Instr.length_dcx p) rfl
    refine ⟨hasForm_dcx p, t, hdone, ?_, hrest⟩
    rw [hread, State.advancePc_readPair]
    bv_omega

/-- Settles O27: a write of HL, then of CY alone. -/
theorem dadAddsPairToHL : Obligations.DadAddsPairToHL := by
  unfold Obligations.DadAddsPairToHL
  intro p s
  refine ⟨hasForm_dad p, _, (HasEffect.dad p).completes s, ?_, ?_, ?_, ?_,
    .afterExec ((frame_writePair _ .hl _).setFlag (State.writePair_f ..) .cy _)⟩
  · simp [afterExec, addPair]
  · simp [afterExec, addPair, State.flag]
  · rw [afterExec_pc, addPair_pc, Instr.length_dad]
    rfl
  · rw [afterExec_sp, addPair_sp, State.advancePc_sp]

/-- Settles O28: A plus the correction by the addition helper, then CY, which is the high correction. -/
theorem daaAdjustsByReference : Obligations.DaaAdjustsByReference := by
  unfold Obligations.DaaAdjustsByReference
  intro s hmode
  have heff : decimalAdjust (s.advancePc 1) = decimalAdjustReference (s.advancePc 1) := by
    rw [decimalAdjust, State.advancePc_config, hmode]
  obtain ⟨t, hdone, ha, hflag, hpc, hsp, hframe⟩ := HasEffect.daa.completes_setAF heff fun _ hk => by simp [hk]
  have hflag_ne_cy : ∀ y, y ≠ .cy →
      t.flag y = getFlag (setFlagsAdd s.f (add8 s.a (daaCorrection s) false) s.a (daaCorrection s) false .zspa) y :=
    fun y hy => by rw [hflag, getFlag_setFlag, if_neg hy]; rfl
  refine ⟨⟨rfl, rfl, rfl⟩, t, (daaCorrection s).toNat, hdone, daaCorrection_eq s, ha ▸ add8_toNat .., ?_, ?_, ?_, hpc,
    hsp, hframe⟩
  · exact ha ▸ szpOf_of_setFlagsAdd (by decide) hflag_ne_cy
  · exact (hflag_ne_cy .ac (by decide)).trans (getFlag_setFlagsAdd ..)
  · rw [hflag, getFlag_setFlag_same, daaHigh_or_carry]
    exact Bool.eq_iff_iff.2 ((daaHigh_iff s).trans decide_eq_true_iff.symm)

/-- Settles O29: A and the flags are written, then one free value is counted. -/
theorem daaStoresCorrectionInSourceMode : Obligations.DaaStoresCorrectionInSourceMode := by
  unfold Obligations.DaaStoresCorrectionInSourceMode
  intro s hmode
  have heff : decimalAdjust (s.advancePc 1) = decimalAdjustSource (s.advancePc 1) := by
    rw [decimalAdjust, State.advancePc_config, hmode]
  have hdone : Completes .daa s ((decimalAdjustSource (s.advancePc 1)).returnCycles (s.config.cyclesOf 0x27)) :=
    heff ▸ HasEffect.daa.completes s
  exact ⟨⟨rfl, rfl, rfl⟩, _, hdone, daaCorrection_eq s, rfl, rfl, rfl,
    .afterExec (i := .daa) (effect := fun s => s.setAF (daaCorrection s) (replaceFlags s.f s.nextFree))
      (frame_setAF _ _ fun _ hk => padding_replaceFlags hk s.f s.nextFree)⟩

end Sys2Proof.Machine
end

section
/-! PROOFS of the family 42_logical.md, with the lemmas they need. -/

namespace Sys2Proof.Machine

section
variable {i : Instr} {effect : State → State} {n : Nat} {s : State}

/-! ### The logical operations (R160 to R168) -/

/-- R160 to R168: what a logical result into A does, whatever the operation; AC is as the operation gives it. -/
theorem HasEffect.completes_logicalToA {r : Byte} {ac : Bool} (h : HasEffect i effect)
    (heff : effect (s.advancePc i.length) = logicalToA r ac (s.advancePc i.length)) :
    ∃ t, Completes i s t ∧ t.a = r ∧ SzpOf t t.a ∧ t.flag .cy = false ∧ t.flag .ac = ac ∧
      t.pc = nextAddr i s ∧ t.sp = s.sp ∧ Frame [.a] allFlags [] s t := by
  obtain ⟨t, hdone, ha, hflag, hpc, hsp, hframe⟩ := h.completes_setAF heff fun _ hk => by simp [hk]
  have hflag_setFlags : ∀ y, y ≠ .cy → y ≠ .ac → t.flag y = getFlag (setFlags s.f r .zsp) y := fun y hcy hac => by
    rw [hflag, getFlag_setFlag, if_neg hac, getFlag_setFlag, if_neg hcy, State.advancePc_f]
  have hszp : SzpOf t r := szpOf_of_setFlags (by decide) (hflag_setFlags .z (by decide) (by decide))
    (hflag_setFlags .s (by decide) (by decide)) (hflag_setFlags .p (by decide) (by decide))
  refine ⟨t, hdone, ha, ha ▸ hszp, ?_, ?_, hpc, hsp, hframe⟩
  · rw [hflag, getFlag_setFlag, if_neg (by decide), getFlag_setFlag_same]
  · rw [hflag, getFlag_setFlag_same]

/-! ### Completing an instruction that writes the flags cell alone -/

theorem Frame.refl (s : State) : Frame [] [] [] s s :=
  ⟨fun _ _ => rfl, fun _ _ _ => rfl, fun _ _ => rfl, rfl, rfl, rfl⟩

theorem HasEffect.completes_setF {f : Byte} {F : List Flag} (h : HasEffect i effect) (hlen : i.length = n)
    (heff : effect (s.advancePc n) = (s.advancePc n).setF f)
    (hpad : ∀ k, IsPadding k → f.getLsbD k = s.f.getLsbD k) (hkeep : ∀ y, y ∉ F → getFlag f y = s.flag y) :
    ∃ t, Completes i s t ∧ (∀ y, t.flag y = getFlag f y) ∧ t.pc = s.pc + BitVec.ofNat 16 n ∧ t.sp = s.sp ∧
      Frame [] F [] s t := by
  subst hlen
  refine ⟨_, h.completes s, fun y => ?_, ?_, ?_, .afterExec (heff ▸ (Frame.refl _).setF hpad hkeep)⟩
  · rw [State.flag, afterExec_f, heff, State.setF_f]
  · rw [afterExec_pc, heff, State.setF_pc, State.advancePc_pc]
  · rw [afterExec_sp, heff, State.setF_sp, State.advancePc_sp]

/-! ### The comparison (R169 to R171) -/

theorem sub8_false (a b : Byte) : sub8 a b false = a - b := BitVec.sub_zero (a - b)

/-- R169 to R171: the five flags of `A - b`, in the terms of the statement; the readings of `SUB_AC_READING` agree. -/
theorem HasEffect.completes_compareA {b : Byte} (h : HasEffect i effect)
    (heff : effect (s.advancePc i.length) = compareA b (s.advancePc i.length)) :
    ∃ t, Completes i s t ∧ SzpOf t (s.a - b) ∧ t.flag .cy = decide (s.a.toNat < b.toNat) ∧
      t.flag .ac = decide (s.a.toNat % 16 < b.toNat % 16) ∧ t.pc = nextAddr i s ∧ t.sp = s.sp ∧
      Frame [] allFlags [] s t := by
  obtain ⟨t, hdone, hflag, hpc, hsp, hframe⟩ := h.completes_setF (F := allFlags) rfl heff
    (fun _ hk => padding_setFlagsSub hk ..) fun y hy => absurd (mem_allFlags y) hy
  refine ⟨t, hdone, sub8_false s.a b ▸ szpOf_of_setFlagsSub (by decide) hflag, ?_, ?_, hpc, hsp, hframe⟩
  · exact (hflag .cy).trans (getFlag_setFlagsSub ..)
  · calc t.flag .ac = subAuxCarry s.config.subAc s.a b false := (hflag .ac).trans (getFlag_setFlagsSub ..)
      _ = _ := subAuxCarry_false ..

/-! ### The rotates (R172 to R175) -/

theorem frame_rotated (a : Byte) (cy : Bool) (s : State) : Frame [.a] [.cy] [] s (rotated a cy s) :=
  (frame_writeReg s .a a).setFlag (State.writeReg_f s .a a) .cy cy

/-- R172 to R175: what a rotate does, by the byte and the bit that it writes. -/
theorem HasEffect.completes_rotated {a : Byte} {cy : Bool} (h : HasEffect i effect) (hlen : i.length = n)
    (heff : effect (s.advancePc n) = rotated a cy (s.advancePc n)) :
    ∃ t, Completes i s t ∧ t.a = a ∧ t.flag .cy = cy ∧ t.pc = s.pc + BitVec.ofNat 16 n ∧ t.sp = s.sp ∧
      Frame [.a] [.cy] [] s t := by
  subst hlen
  refine ⟨_, h.completes s, ?_, ?_, ?_, ?_, .afterExec (heff ▸ frame_rotated a cy _)⟩
  · rw [afterExec, heff]
    rfl
  · rw [State.flag, afterExec_f, heff]
    exact getFlag_setFlag_same ..
  · rw [afterExec_pc, heff]
    rfl
  · rw [afterExec_sp, heff]
    rfl

/-! ### CMC and STC (R177, R178) -/

theorem HasEffect.completes_writeCarry {v : Bool} (h : HasEffect i effect) (hlen : i.length = n)
    (heff : effect (s.advancePc n) = (s.advancePc n).setFlag .cy v) :
    ∃ t, Completes i s t ∧ t.flag .cy = v ∧ t.pc = s.pc + BitVec.ofNat 16 n ∧ t.sp = s.sp ∧ Frame [] [.cy] [] s t := by
  obtain ⟨t, hdone, hflag, hrest⟩ := h.completes_setF (F := [.cy]) hlen heff (fun _ hk => padding_setFlag hk ..)
    fun y hy => by rw [getFlag_setFlag, if_neg (List.ne_of_not_mem_cons hy)]; rfl
  exact ⟨t, hdone, (hflag .cy).trans (getFlag_setFlag_same ..), hrest⟩

end

/-- R177: the toggle accessor on CY is the write of its complement. -/
theorem complementCarry_eq_setFlag (s : State) : complementCarry s = s.setFlag .cy (!s.flag .cy) :=
  congrArg s.setF (toggleFlag_eq_setFlag s.f .cy)

/-! ### The obligations -/

/-- Settles O30: a logical result into A with the auxiliary carry of `ANA_AC_RULE`, each clause by its value. -/
theorem anaAndsIntoAccumulator : Obligations.AnaAndsIntoAccumulator := by
  unfold Obligations.AnaAndsIntoAccumulator
  intro x s
  obtain ⟨t, hdone, ha, hszp, hcy, hac, hrest⟩ :=
    (HasEffect.alu .ana x).completes_logicalToA (aluEffect_advancePc .ana x s _)
  rw [State.advancePc_a, State.advancePc_config] at hac
  refine ⟨aluForm .ana x, t, hdone, ha, hszp, hcy, fun hrule => ?_, fun hrule => ?_, fun hrule => ?_, hrest⟩
  · rw [hac, hrule, anaAuxCarry, BitVec.getLsbD_or]
  · rw [hac, hrule, anaAuxCarry, BitVec.getLsbD_or]
  · rw [hac, hrule, anaAuxCarry, BitVec.getLsbD_and]

/-- Settles O31: a logical result into A with AC cleared. -/
theorem xraXorsIntoAccumulator : Obligations.XraXorsIntoAccumulator := by
  unfold Obligations.XraXorsIntoAccumulator
  intro x s
  exact ⟨aluForm .xra x, (HasEffect.alu .xra x).completes_logicalToA (aluEffect_advancePc ..)⟩

/-- Settles O32: a logical result into A with AC cleared. -/
theorem oraOrsIntoAccumulator : Obligations.OraOrsIntoAccumulator := by
  unfold Obligations.OraOrsIntoAccumulator
  intro x s
  exact ⟨aluForm .ora x, (HasEffect.alu .ora x).completes_logicalToA (aluEffect_advancePc ..)⟩

/-- Settles O33: the flags of the difference, which is 0 exactly when A is the operand. -/
theorem cmpSetsFlagsOfDifference : Obligations.CmpSetsFlagsOfDifference := by
  unfold Obligations.CmpSetsFlagsOfDifference
  intro x s
  obtain ⟨t, hdone, hszp, hrest⟩ := (HasEffect.alu .cmp x).completes_compareA (aluEffect_advancePc .cmp x s _)
  exact ⟨aluForm .cmp x, t, hdone, hszp, hszp.1.trans (decide_eq_decide.2 sub_eq_zero), hrest⟩

/-- Settles O34: each is a rotate, whose byte is shifted with one bit put in. -/
theorem rotatesMoveAccumulatorAndCarry : Obligations.RotatesMoveAccumulatorAndCarry := by
  unfold Obligations.RotatesMoveAccumulatorAndCarry
  intro s
  refine ⟨⟨⟨rfl, rfl, rfl⟩, ?_⟩, ⟨⟨rfl, rfl, rfl⟩, ?_⟩, ⟨⟨rfl, rfl, rfl⟩, ?_⟩, ⟨rfl, rfl, rfl⟩, ?_⟩
  · obtain ⟨t, hdone, ha, hrest⟩ := HasEffect.rlc.completes_rotated (s := s) rfl rfl
    refine ⟨t, hdone, ?_, hrest⟩
    rw [ha, shiftLeft_toNat, bit7_toNat, State.advancePc_a]
  · obtain ⟨t, hdone, ha, hrest⟩ := HasEffect.rrc.completes_rotated (s := s) rfl rfl
    refine ⟨t, hdone, ?_, hrest⟩
    rw [ha, shiftRight_toNat, bit0_toNat, State.advancePc_a]
  · obtain ⟨t, hdone, ha, hrest⟩ := HasEffect.ral.completes_rotated (s := s) rfl rfl
    exact ⟨t, hdone, ha ▸ shiftLeft_toNat s.a (s.flag .cy), hrest⟩
  · obtain ⟨t, hdone, ha, hrest⟩ := HasEffect.rar.completes_rotated (s := s) rfl rfl
    exact ⟨t, hdone, ha ▸ shiftRight_toNat s.a (s.flag .cy), hrest⟩

/-- Settles O35: a register write of the complement. -/
theorem cmaComplementsAccumulator : Obligations.CmaComplementsAccumulator := by
  unfold Obligations.CmaComplementsAccumulator
  intro s
  obtain ⟨t, hdone, ha, hrest⟩ := HasEffect.cma.completes_writeReg (s := s) rfl rfl
  exact ⟨⟨rfl, rfl, rfl⟩, t, hdone, (congrArg BitVec.toNat ha).trans BitVec.toNat_not, hrest⟩

/-- Settles O36: both are a write of CY alone. -/
theorem cmcAndStcWriteCarryAlone : Obligations.CmcAndStcWriteCarryAlone := by
  unfold Obligations.CmcAndStcWriteCarryAlone
  intro s
  refine ⟨⟨⟨rfl, rfl, rfl⟩, ?_⟩, ⟨rfl, rfl, rfl⟩, HasEffect.stc.completes_writeCarry rfl rfl⟩
  obtain ⟨t, hdone, hcy, hrest⟩ := HasEffect.cmc.completes_writeCarry (s := s) rfl (complementCarry_eq_setFlag _)
  refine ⟨t, hdone, ?_, hrest⟩
  rw [hcy, State.advancePc_flag]
  cases s.flag .cy <;> rfl

end Sys2Proof.Machine
end

section
/-! PROOFS of the family 43_control.md, with the lemmas they need. -/

namespace Sys2Proof.Machine

/-! ### Frames of the control transfers -/

theorem frame_setPc (s : State) (v : Word) : Frame [] [] [] s (s.setPc v) where
  regs r _ := State.setPc_readReg s v r
  flags _ _ _ := rfl
  mem _ _ := rfl
  trap := rfl
  config := rfl
  free := rfl

theorem frame_setSp (s : State) (v : Word) : Frame [] [] [] s (s.setSp v) where
  regs r _ := State.setSp_readReg s v r
  flags _ _ _ := rfl
  mem _ _ := rfl
  trap := rfl
  config := rfl
  free := rfl

theorem frame_pushByte (s : State) (v : Byte) : Frame [] [] [s.sp - 1] s (s.pushByte v) :=
  (frame_setSp s _).trans (frame_writeByte _ (s.sp - 1) v)

theorem frame_callSubroutine (addr : Word) (s : State) :
    Frame [] [] [s.sp - 1, s.sp - 2] s (callSubroutine addr s) :=
  sub_two s.sp ▸ ((frame_pushByte s _).trans (frame_pushByte _ _)).trans (frame_setPc _ addr)

theorem frame_returnFromSubroutine (s : State) : Frame [] [] [] s (returnFromSubroutine s) :=
  (frame_setSp s _).trans (frame_setPc _ _)

/-! ### The jumps (R200 to R208) -/

/-- A jump, taken or not, is a write of `pc`. -/
theorem HasEffect.completes_setPc {i : Instr} {effect : State → State} {n : Nat} {s : State} {v : Word}
    (h : HasEffect i effect) (hlen : i.length = n) (heff : effect (s.advancePc n) = (s.advancePc n).setPc v) :
    ∃ t, Completes i s t ∧ t.pc = v ∧ t.sp = s.sp ∧ Frame [] [] [] s t := by
  subst hlen
  refine ⟨_, h.completes s, ?_, ?_, .afterExec (heff ▸ frame_setPc _ v)⟩
  · rw [afterExec_pc, heff, State.setPc_pc]
  · rw [afterExec_sp, heff, State.setPc_sp, State.advancePc_sp]

/-- D6: a jump not taken writes the `pc` that has advanced already. -/
theorem jumpIf_eq_setPc (cond : Cond) (addr : Word) (s : State) :
    jumpIf cond addr s = s.setPc (if condHolds cond s.f = true then addr else s.pc) := by
  rw [jumpIf]
  split <;> rfl

theorem hasForm_jcond (cond : Cond) (addr : Word) :
    HasForm (.jcond cond addr) (0b11#2 ++ cond.code ++ 0b010#3) 3 3 := by
  refine ⟨?_, Instr.length_jcond cond addr, ?_⟩ <;> cases cond <;> rfl

/-! ### The stack (R209, R210) -/

theorem State.readByte_callSubroutine_high (s : State) (addr : Word) :
    (callSubroutine addr s).readByte (s.sp - 1) = hiByte s.pc := by
  rw [State.readByte_callSubroutine, if_neg (sub_two_ne s.sp).symm, if_pos rfl]

theorem State.readByte_callSubroutine_low (s : State) (addr : Word) :
    (callSubroutine addr s).readByte (s.sp - 2) = loByte s.pc := by
  rw [State.readByte_callSubroutine, if_pos rfl]

theorem sub_two_add_one (v : Word) : v - 2 + 1 = v - 1 := by bv_omega

/-- The two pushed bytes read back as a word, since the low byte is at the lower address. -/
theorem State.read16_callSubroutine (s : State) (addr : Word) :
    (callSubroutine addr s).read16 (callSubroutine addr s).sp = s.pc := by
  rw [callSubroutine_sp, State.read16, sub_two_add_one, State.readByte_callSubroutine_high,
    State.readByte_callSubroutine_low, joinBytes_hi_lo]

theorem completes_ret (s : State) :
    ∃ t, Completes .ret s t ∧ t.pc = s.read16 s.sp ∧ t.sp = s.sp + 2 ∧ Frame [] [] [] s t :=
  ⟨_, HasEffect.ret.completes s, rfl, rfl, .afterExec (frame_returnFromSubroutine _)⟩

/-! ### The obligations -/

/-- Settles O38: a write of `pc`, whose value goes by the flag that the condition names. -/
theorem conditionalJumpsTestOneFlag : Obligations.ConditionalJumpsTestOneFlag := by
  unfold Obligations.ConditionalJumpsTestOneFlag
  intro cond addr s
  obtain ⟨t, hdone, hrest⟩ := (HasEffect.jcond cond addr).completes_setPc (s := s) (Instr.length_jcond cond addr)
    (jumpIf_eq_setPc cond addr _)
  refine ⟨hasForm_jcond cond addr, t, condHolds cond s.f, hdone, ?_, ?_, ?_, ?_, ?_, ?_, ?_, ?_, hrest⟩ <;>
    (rintro rfl; rfl)

/-- Settles O39: two pushes of the `pc` that has advanced past the CALL. -/
theorem callPushesReturnAddress : Obligations.CallPushesReturnAddress := by
  unfold Obligations.CallPushesReturnAddress
  intro addr s
  refine ⟨⟨rfl, rfl, rfl⟩, _, (HasEffect.call addr).completes s, rfl, callSubroutine_sp addr _, ?_, ?_,
    State.read16_callSubroutine _ addr, .afterExec (frame_callSubroutine addr (s.advancePc 3))⟩
  · exact (congrArg BitVec.toNat (State.readByte_callSubroutine_high _ addr)).trans (hiByte_toNat _)
  · exact (congrArg BitVec.toNat (State.readByte_callSubroutine_low _ addr)).trans (loByte_toNat _)

/-- Settles O40: the word at SP by its two bytes. -/
theorem retPopsReturnAddress : Obligations.RetPopsReturnAddress := by
  unfold Obligations.RetPopsReturnAddress
  intro s
  obtain ⟨t, hdone, hpc, hrest⟩ := completes_ret s
  refine ⟨⟨rfl, rfl, rfl⟩, t, hdone, ?_, hrest⟩
  rw [hpc, State.read16, joinBytes_toNat, Nat.mul_comm, Nat.add_comm]

/-- Settles O41: RET pops the word that CALL left at the new SP, and moves SP back. -/
theorem callThenRetReturns : Obligations.CallThenRetReturns := by
  unfold Obligations.CallThenRetReturns
  intro addr s
  obtain ⟨-, t, ⟨hcall, -⟩, -, hsp, -, -, hword, hframe⟩ := callPushesReturnAddress addr s
  obtain ⟨u, ⟨hret, -⟩, hpc, hsp', hframe'⟩ := completes_ret t
  refine ⟨t, u, hcall, hret, hpc.trans hword, ?_, hframe.trans hframe'⟩
  rw [hsp', hsp, BitVec.sub_add_cancel]

/-- Settles O37: a write of `pc`. -/
theorem jmpJumps : Obligations.JmpJumps := by
  unfold Obligations.JmpJumps
  exact fun addr s => ⟨⟨rfl, rfl, rfl⟩, (HasEffect.jmp addr).completes_setPc rfl rfl⟩

end Sys2Proof.Machine
end

section
/-! PROOFS of the family 60_exceptions.md, with the lemmas they need. -/

namespace Sys2Proof.Machine

/-! ### The trap (R220, R223) -/

/-- R223: but for the trap status, the trap changes `pc` and the returned count alone. -/
theorem frame_takeTrap (op : Byte) (s : State) : Frame [] [] [] s { s.takeTrap op with trap := s.trap } where
  regs r _ := State.takeTrap_readReg s op r
  flags _ _ _ := rfl
  mem _ _ := rfl
  trap := rfl
  config := rfl
  free := rfl

/-- R87, R221: on an opcode outside `IMPLEMENTED` a running machine steps as that opcode's trap does. -/
theorem step_of_not_implements {s : State} (hrun : s.Running) (himp : s.config.implements (s.readByte s.pc) = false) :
    step s = exec (.unimplemented (s.readByte s.pc)) s := by
  rw [step_running hrun, State.fetch_of_not_implements himp]

/-! ### The trap report (R222) -/

section
variable {s : State} {pc0 : Word} {op : Byte}

theorem State.trapReport_running (h : s.Running) : s.trapReport = none := by
  rw [State.trapReport, show s.trap = .running from h]

theorem State.trapReport_opcodeAddress (h : s.trap = .trapped pc0 op) (hrep : s.config.trapPc = .opcodeAddress) :
    s.trapReport = some (pc0, op) := by
  simp only [State.trapReport, h, hrep]

theorem State.trapReport_advanced (h : s.trap = .trapped pc0 op) (hrep : s.config.trapPc = .advanced) :
    s.trapReport = some (pc0 + 1, op) := by
  simp only [State.trapReport, h, hrep]

end

/-! ### The obligations -/

/-- Settles O42: the instruction is `takeTrap`, and an opcode outside `IMPLEMENTED` is fetched as that instruction. -/
theorem unimplementedOpcodeTraps : Obligations.UnimplementedOpcodeTraps := by
  unfold Obligations.UnimplementedOpcodeTraps
  intro op s
  refine ⟨⟨s.takeTrap op, exec_unimplemented op s, ?_⟩, step_of_not_implements⟩
  exact ⟨State.takeTrap_trap s op, State.takeTrap_pc s op, State.takeTrap_cycles s op, State.takeTrap_sp s op,
    frame_takeTrap op s⟩

/-- Settles O44: the report by the trap status, then by the value of `TRAP_PC_REPORT`. -/
theorem trapReportFollowsParameter : Obligations.TrapReportFollowsParameter := by
  unfold Obligations.TrapReportFollowsParameter
  exact fun s => ⟨State.trapReport_running, fun pc0 op h =>
    ⟨State.trapReport_opcodeAddress h, State.trapReport_advanced h⟩⟩

end Sys2Proof.Machine
end

section
/-! PROOFS of the family 70_reset_and_hazards.md, with the lemmas they need. -/

namespace Sys2Proof.Machine

/-! ### The returned count (R245 to R247) -/

/-- The fetched instruction's opcode is the byte at `pc`. -/
theorem State.opcode_fetch (s : State) : s.fetch.opcode = s.readByte s.pc := opcode_decodeInstr ..

/-- R246: an opcode that the document does not fix takes its entry, or the default table's. -/
theorem cyclesOf_of_ne {c : Config} {op : Byte} (h06 : op ≠ 0x06) (h3A : op ≠ 0x3A) :
    c.cyclesOf op = (findCount op c.cycleCounts).getD (defaultCycles op) := by
  rw [Config.cyclesOf]
  exact (if_neg h06).trans (if_neg h3A)

/-! ### Load (R234 to R237) -/

theorem State.load_wrap {s : State} (h : s.config.loadOverflow = .wrap) (bytes : List Byte) :
    s.load bytes = s.loadFrom 0 bytes := by rw [State.load, h]

theorem State.load_truncate {s : State} (h : s.config.loadOverflow = .truncate) (bytes : List Byte) :
    s.load bytes = s.loadFrom 0 (bytes.take 65536) := by rw [State.load, h]

/-- An input that fits in memory is loaded the same way under both values of `LOAD_OVERFLOW`. -/
theorem State.load_of_fits (s : State) {bytes : List Byte} (h : bytes.length ≤ 65536) :
    s.load bytes = s.loadFrom 0 bytes := by
  cases hover : s.config.loadOverflow with
  | wrap => exact State.load_wrap hover bytes
  | truncate => rw [State.load_truncate hover, List.take_of_length_le h]

/-- R234: from address 0, byte `k` of an input that fits is at address `k`. -/
theorem State.readByte_loadFrom_zero (s : State) {bytes : List Byte} (h : bytes.length ≤ 65536) (addr : Word) :
    (s.loadFrom 0 bytes).readByte addr = (bytes[addr.toNat]?).getD (s.readByte addr) := by
  rw [State.readByte_loadFrom s 0 bytes (by omega), if_pos (Nat.zero_le _), Nat.sub_zero]

/-- A cell that is the cell of no index of the input stays. -/
theorem State.readByte_loadFrom_of_ne (s : State) (i : Nat) (bytes : List Byte) (addr : Word)
    (h : ∀ j < bytes.length, addr ≠ BitVec.ofNat 16 (i + j)) :
    (s.loadFrom i bytes).readByte addr = s.readByte addr := by
  induction bytes generalizing s i with
  | nil => rfl
  | cons v rest ih =>
    have hrest : ∀ j < rest.length, addr ≠ BitVec.ofNat 16 (i + 1 + j) := fun j hj => by
      rw [Nat.add_right_comm, Nat.add_assoc]
      exact h (j + 1) (Nat.succ_lt_succ hj)
    have hfirst : addr ≠ BitVec.ofNat 16 i := h 0 (Nat.succ_pos _)
    rw [State.loadFrom, ih _ _ hrest, State.readByte_writeByte_of_ne s v hfirst]

/-- R235: a byte stays in its cell when fewer than 65536 bytes follow it. -/
theorem State.readByte_loadFrom_last (s : State) {bytes : List Byte} {k : Nat} (hk : k < bytes.length)
    (h : bytes.length ≤ k + 65536) : (s.loadFrom 0 bytes).readByte (BitVec.ofNat 16 k) = bytes[k] := by
  have hsplit : bytes = bytes.take k ++ bytes[k] :: bytes.drop (k + 1) := by
    rw [← List.drop_eq_getElem_cons hk, List.take_append_drop]
  have hlen : 0 + (bytes.take k).length = k := by rw [Nat.zero_add, List.length_take_of_le (Nat.le_of_lt hk)]
  rw [congrArg (s.loadFrom 0) hsplit, State.loadFrom_append, hlen, State.loadFrom, State.readByte_loadFrom_of_ne,
    State.readByte_writeByte_same]
  intro j hj
  rw [List.length_drop] at hj
  bv_omega

theorem sameButMemory_loadFrom (s : State) (i : Nat) (bytes : List Byte) : SameButMemory s (s.loadFrom i bytes) := by
  rw [SameButMemory, State.loadFrom_eq]

theorem sameButMemory_load (s : State) (bytes : List Byte) : SameButMemory s (s.load bytes) := by
  unfold State.load
  split <;> exact sameButMemory_loadFrom s 0 _

/-- R236: but for the counter of free values, a failed load changes memory alone. -/
theorem sameButMemory_scramble (s : State) (i n : Nat) : SameButMemory s { s.scramble i n with free := s.free } := by
  rw [SameButMemory, State.scramble_eq]

/-! ### The inspection interface (R240) -/

/-- R23: a pair is read from its own registers, SP from itself. -/
theorem State.readPair_congr {s t : State} {p : Pair} (hregs : ∀ r ∈ pairRegs p, t.readReg r = s.readReg r)
    (hsp : p = .sp → t.sp = s.sp) : t.readPair p = s.readPair p := by
  cases p with
  | bc => exact congrArg₂ joinBytes (hregs .b (by decide)) (hregs .c (by decide))
  | de => exact congrArg₂ joinBytes (hregs .d (by decide)) (hregs .e (by decide))
  | hl => exact congrArg₂ joinBytes (hregs .h (by decide)) (hregs .l (by decide))
  | sp => exact hsp rfl

/-- R23: no register belongs to two pairs. -/
theorem notMem_pairRegs_of_ne {p q : Pair} : p ≠ q → ∀ r ∈ pairRegs q, r ∉ pairRegs p := by
  cases p <;> cases q <;> decide

theorem State.readPair_writeReg_of_notMem (s : State) {r : Reg} (v : Byte) {p : Pair} (h : r ∉ pairRegs p) :
    (s.writeReg r v).readPair p = s.readPair p :=
  State.readPair_congr
    (fun r' hr' => by rw [State.readReg_writeReg, if_neg (ne_of_mem_of_not_mem hr' h)])
    (fun _ => State.writeReg_sp s r v)

theorem State.readPair_writePair_of_ne (s : State) (v : Word) {p q : Pair} (h : p ≠ q) :
    (s.writePair p v).readPair q = s.readPair q :=
  State.readPair_congr
    (fun r hr => State.readReg_writePair_of_notMem s p v r (notMem_pairRegs_of_ne h r hr))
    (fun hq => by rw [State.sp_writePair, if_neg (hq ▸ h)])

section
variable {s : State} {q : Place}

theorem State.inspect_writeReg {r : Reg} {v : Byte} (h : (Place.reg r).overlaps q = false) :
    (s.writeReg r v).inspect q = s.inspect q := by
  cases q with
  | reg r' =>
    have hne : r ≠ r' := by simpa [Place.overlaps] using h
    simp only [State.inspect, State.readReg_writeReg, if_neg hne.symm]
  | pair p =>
    have hmem : r ∉ pairRegs p := by simpa [Place.overlaps] using h
    simp only [State.inspect, State.readPair_writeReg_of_notMem s v hmem]
  | flag _ | flagsCell | pc | cell _ => simp [State.inspect]

theorem State.inspect_writePair {p : Pair} {v : Word} (h : (Place.pair p).overlaps q = false) :
    (s.writePair p v).inspect q = s.inspect q := by
  cases q with
  | reg r =>
    have hmem : r ∉ pairRegs p := by simpa [Place.overlaps] using h
    simp only [State.inspect, State.readReg_writePair_of_notMem s p v r hmem]
  | pair p' =>
    have hne : p ≠ p' := by simpa [Place.overlaps] using h
    simp only [State.inspect, State.readPair_writePair_of_ne s v hne]
  | flag _ | flagsCell | pc | cell _ => simp [State.inspect]

theorem State.inspect_setFlag {x : Flag} {v : Bool} (h : (Place.flag x).overlaps q = false) :
    (s.setFlag x v).inspect q = s.inspect q := by
  cases q with
  | flag y =>
    have hne : x ≠ y := by simpa [Place.overlaps] using h
    simp only [State.inspect, State.flag, State.setFlag_f, getFlag_setFlag, if_neg hne.symm]
  | flagsCell => cases h
  | reg _ | pair _ | pc | cell _ => simp [State.inspect]

theorem State.inspect_setF {f : Byte} (h : Place.flagsCell.overlaps q = false) :
    (s.setF f).inspect q = s.inspect q := by
  cases q with
  | flag _ | flagsCell => cases h
  | reg _ | pair _ | pc | cell _ => simp [State.inspect]

theorem State.inspect_setPc {v : Word} (h : Place.pc.overlaps q = false) :
    (s.setPc v).inspect q = s.inspect q := by
  cases q with
  | pc => cases h
  | reg _ | pair _ | flag _ | flagsCell | cell _ => simp [State.inspect]

theorem State.inspect_writeByte {addr : Word} {v : Byte} (h : (Place.cell addr).overlaps q = false) :
    (s.writeByte addr v).inspect q = s.inspect q := by
  cases q with
  | cell addr' =>
    have hne : addr ≠ addr' := by simpa [Place.overlaps] using h
    simp only [State.inspect, State.readByte_writeByte_of_ne s v hne.symm]
  | reg _ | pair _ | flag _ | flagsCell | pc => simp [State.inspect]

end

/-- A place holds the low bits of what is written there. -/
theorem State.inspect_preset_same (s : State) (v : Nat) (p : Place) : (s.preset v p).inspect p = v % 2 ^ p.width := by
  cases p with
  | flag x =>
    rw [State.preset, State.inspect, State.flag, State.setFlag_f, getFlag_setFlag_same, Place.width]
    rcases Nat.mod_two_eq_zero_or_one v with h | h <;> simp [h]
  | reg _ | pair _ | flagsCell | pc | cell _ => simp [State.preset, State.inspect, Place.width]

/-- A place that shares no storage with the one written reads as before. -/
theorem State.inspect_preset_of_not_overlaps (s : State) (v : Nat) {p q : Place} (h : p.overlaps q = false) :
    (s.preset v p).inspect q = s.inspect q := by
  cases p with
  | reg _ => exact State.inspect_writeReg h
  | pair _ => exact State.inspect_writePair h
  | flag _ => exact State.inspect_setFlag h
  | flagsCell => exact State.inspect_setF h
  | pc => exact State.inspect_setPc h
  | cell _ => exact State.inspect_writeByte h

@[simp] theorem State.preset_trap (s : State) (v : Nat) (p : Place) : (s.preset v p).trap = s.trap := by
  cases p <;> simp [State.preset]
@[simp] theorem State.preset_config (s : State) (v : Nat) (p : Place) : (s.preset v p).config = s.config := by
  cases p <;> simp [State.preset]
@[simp] theorem State.preset_cycles (s : State) (v : Nat) (p : Place) : (s.preset v p).cycles = s.cycles := by
  cases p <;> simp [State.preset]

theorem State.mem_wf_preset {s : State} (h : s.mem.wf) (v : Nat) (p : Place) : (s.preset v p).mem.wf := by
  cases p with
  | cell addr => exact State.mem_wf_writeByte h addr _
  | reg _ | pair _ | flag _ | flagsCell | pc => simpa [State.preset] using h

/-! ### The obligations -/

/-- Settles O46: a step is the trap, which returns no count and does not leave the machine running, or returns
`CYCLES` of the opcode at `pc`. -/
theorem stepReturnsCycleCount : Obligations.StepReturnsCycleCount := by
  unfold Obligations.StepReturnsCycleCount
  intro s t hwf hstep
  obtain ⟨hrun, -⟩ := step_next hstep
  rcases step_inversion hstep with ⟨-, rfl⟩ | ⟨hkeeps, hcycles⟩
  · exact ⟨fun htrap => TrapStatus.noConfusion htrap, fun _ => rfl⟩
  · rw [State.opcode_fetch] at hcycles
    obtain ⟨hpos, hlt⟩ := cyclesOf_bounds hwf (s.readByte s.pc)
    refine ⟨fun _ => ⟨_, hcycles, hpos, hlt, fun h06 => ?_, fun h3A => ?_, cyclesOf_of_ne⟩,
      fun hnot => absurd (hkeeps.trap.trans hrun) hnot⟩
    · rw [h06]; rfl
    · rw [h3A]; rfl

/-- Settles O56: an input that fits is copied from address 0 under either value of `LOAD_OVERFLOW`. -/
theorem loadCopiesBytesFromAddressZero : Obligations.LoadCopiesBytesFromAddressZero := by
  unfold Obligations.LoadCopiesBytesFromAddressZero
  intro s bytes hfits
  refine ⟨rfl, fun addr => ?_, sameButMemory_load s bytes, fun h => State.mem_wf_load h bytes⟩
  rw [State.load_of_fits s hfits, State.readByte_loadFrom_zero s hfits]

/-- Settles O57: under `wrap` fewer than 65536 bytes follow the cell's last one; under `truncate` what is loaded
fits. -/
theorem loadOverflowFollowsParameter : Obligations.LoadOverflowFollowsParameter := by
  unfold Obligations.LoadOverflowFollowsParameter
  intro s bytes addr
  refine ⟨fun hwrap k hlt hle => ?_, fun htrunc => ?_, fun hle => ?_⟩
  · have hcell : BitVec.ofNat 16 (65536 * k + addr.toNat) = addr := by bv_omega
    have hlast := State.readByte_loadFrom_last s hlt (by omega)
    rw [hcell] at hlast
    rw [State.load_wrap hwrap, hlast, List.getElem?_eq_getElem hlt]
  · rw [State.load_truncate htrunc, State.readByte_loadFrom_zero s (List.length_take_le 65536 bytes),
      List.getElem?_take_of_lt addr.isLt]
  · have hfits : bytes.length ≤ 65536 := Nat.le_trans hle (Nat.le_of_lt addr.isLt)
    rw [State.load_of_fits s hfits, State.readByte_loadFrom_zero s hfits, List.getElem?_eq_none hle, Option.getD_none]

/-- Settles O58: the free values go to the cells below the number of bytes offered. -/
theorem failedLoadKeepsUnreachableState : Obligations.FailedLoadKeepsUnreachableState := by
  unfold Obligations.FailedLoadKeepsUnreachableState
  intro s offered
  refine ⟨s.scramble 0 (reachable offered), rfl, sameButMemory_scramble s 0 _,
    fun h => State.mem_wf_scramble h 0 _, ?_⟩
  rintro addr ⟨n, rfl, hn⟩
  have hreach : reachable (some n) = n := Nat.min_eq_left (Nat.le_trans hn (Nat.le_of_lt addr.isLt))
  have haddr := addr.isLt
  rw [hreach]
  exact State.readByte_scramble s 0 n (by omega) addr (by omega)

/-- Settles O59: each place is written by an operation that keeps what shares no storage with it. -/
theorem inspectionWriteChangesOnlyItsPlace : Obligations.InspectionWriteChangesOnlyItsPlace := by
  unfold Obligations.InspectionWriteChangesOnlyItsPlace
  exact fun s v p _ => ⟨State.inspect_preset_same s v p, State.inspect_preset_of_not_overlaps s v,
    State.preset_trap s v p, State.preset_config s v p, State.preset_cycles s v p, fun h => State.mem_wf_preset h v p⟩

end Sys2Proof.Machine
end
